-- ==== Sys2Proof/Word.lean ====
section
/-! DEFINITION. The words of MBCORE and their plainest parts. -/

namespace Sys2Proof

/-- A byte: an unsigned 8-bit value (00_scope.md section 5). -/
abbrev Byte := BitVec 8

/-- A 16-bit value: CRC_ACC, a RESULT value, the BUILD operand (R13, R57). -/
abbrev Half := BitVec 16

/-- A command word on the CMD port (R57). -/
abbrev CmdWord := BitVec 32

/-- `v[15:8]` of a 16-bit value. -/
abbrev hiByte (v : Half) : Byte := v.extractLsb' 8 8

/-- `v[7:0]` of a 16-bit value. -/
abbrev loByte (v : Half) : Byte := v.extractLsb' 0 8

end Sys2Proof
end

