-- ==== Sys2Proof/Config.lean ====
section
/-! DEFINITION. What is fixed for one MBCORE: the hardwired constants of R5, the parameters of R6, and the free
values (opaque constants without a body) that stand where the spec says "any value". -/

namespace Sys2Proof

/-- The parameters the spec leaves OPEN (R6): "A model takes them as arguments." The machine's own copy stands in the
field `cfg` of State, which no step changes; so a statement over every state holds for every value of them. Log 6. -/
structure Config where
  /-- T1S: time-source ticks per second; ADV_PERIOD is T1S ticks (R6, D2). -/
  t1s : Nat
  /-- R6: "natural number, at least 1". -/
  t1sPos : 1 ≤ t1s := by decide
  /-- TIME_W: width of a hardware time counter; `none` is "unbounded" (R6, D3). -/
  timeW : Option Nat
  /-- READ_TIMEOUT: the bound of one channel read, in ticks (R6, D17). -/
  readTimeout : Nat
  /-- YIELD_TIME: the pause between iterations, in ticks (R6, D18); timing only. -/
  yieldTime : Nat
  deriving DecidableEq, Repr

namespace Config

/-- R5: the slave address accepted and emitted. -/
abbrev SLAVE_ADDR : Byte := 0x01

/-- R5: function code "read input registers". -/
abbrev FUNC_RIR : Byte := 0x04

/-- R5: the only starting register address accepted. -/
abbrev START_ADDR : Half := 0x0000

/-- R5: the response byte-count field. -/
abbrev BYTE_COUNT : Byte := 0x02

/-- R5: request frame length in bytes. -/
abbrev REQ_LEN : Nat := 8

/-- R5: largest measurement value. -/
abbrev MEAS_MAX : Nat := 2000

/-- R5: modulus of the measurement increment. -/
abbrev MEAS_MOD : Nat := 2001

/-- R5: CRC accumulator initial value. -/
abbrev CRC_INIT : Half := 0xFFFF

/-- R5: the XOR constant of the reflected CRC step. -/
abbrev CRC_POLY : Half := 0xA001

/-- R5: the maximum byte count of one channel read. -/
abbrev READ_MAX : Nat := 8

/-- The free bytes that fill RXBUF and TXBUF at RESET (R23, R150, log 4) and RXBUF past RXLEN after a short read
(R113, D30, log 5): nothing constrains them. The argument counts the free values used so far. -/
opaque freeByte : Nat → Byte

/-- How many bytes of a response reached the master when its write failed (R41, D16, log 8): a free value, taken
modulo 8 where it is used, since any prefix of the 7 bytes may have been sent. -/
opaque freeCount : Nat → Nat

end Config

end Sys2Proof
end

