-- ==== Sys2Proof/Syntax.lean ====
section
/-! DEFINITION. The instructions of MBCORE (spec/opcode_table.json: ten commands and one frame class), the encoded
forms a decoder is given, and the names under which the decoder rejects. -/

namespace Sys2Proof

/-- One constructor per row of spec/opcode_table.json (30_encoding.md R55, R57). Operands of format S come from the
side-band ports (R58), so they are no arguments here. -/
inductive Instr where
  /-- RESET (R150). -/
  | reset
  /-- CRC_INIT (R73). -/
  | crcInit
  /-- CRC_BYTE b (R74); b is `CMD[15:8]`. -/
  | crcByte (b : Byte)
  /-- CRC_READ (R75). -/
  | crcRead
  /-- CRC16 (R76); operand BUF. -/
  | crc16
  /-- ADVANCE (R80); operand NOW. -/
  | advance
  /-- CURRENT (R81). -/
  | current
  /-- CLASSIFY (R90); operand BUF. -/
  | classify
  /-- BUILD v (R100); v is `CMD[31:16]`. -/
  | build (v : Half)
  /-- ITERATE (R118); operands NOW, STOP and the channel's answers. -/
  | iterate
  /-- RD_IR0, the one request-frame class (R55): its quantity field and its two checksum bytes, none of which any rule
  reads (R51, R91). -/
  | rdIr0 (qty : Half) (crcLo crcHi : Byte)
  deriving DecidableEq, Repr

/-- What MBCORE decodes: "two kinds of word" (30_encoding.md). -/
inductive Code where
  /-- A command word on the CMD port (R57). -/
  | command (w : CmdWord)
  /-- A byte sequence read from the channel, index 0 first on the wire (R50). -/
  | frame (bytes : List Byte)
  deriving DecidableEq, Repr

/-- Why a word or a frame is no instruction. -/
inductive Reject where
  /-- R59: OP is 0xA to 0xF. -/
  | reservedOp
  /-- R59: RSV is not 0. -/
  | reservedBits
  /-- R59: B is not 0 in a format that does not use it. -/
  | unusedB
  /-- R59: V is not 0 in a format that does not use it. -/
  | unusedV
  /-- R92: the buffer's length is not 8. -/
  | frameLength
  /-- R56: ADDR is not 0x01. -/
  | frameAddr
  /-- R56: FUNC is not 0x04. -/
  | frameFunc
  /-- R56: START is not 0x0000. -/
  | frameStart
  deriving DecidableEq, Repr

end Sys2Proof
end

