-- ==== Sys2Proof/WellFormed.lean ====
section
/-! DEFINITION. Which instructions are well formed: the operand ranges the spec states. -/

namespace Sys2Proof

/-- BUILD "also requires v <= 2000" (R58, R103); every other operand is admitted at every value of its width. -/
def Instr.wf : Instr → Bool
  | .reset => true
  | .crcInit => true
  | .crcByte _ => true
  | .crcRead => true
  | .crc16 => true
  | .advance => true
  | .current => true
  | .classify => true
  | .build v => decide (v.toNat ≤ Config.MEAS_MAX)
  | .iterate => true
  | .rdIr0 _ _ _ => true

end Sys2Proof
end

