-- ==== Sys2Proof/Decode.lean ====
section
/-! DEFINITION. The decoder of command words (R57 to R59) and of request frames (R50 to R56), total and rejecting by
name; then the encoder, and the opcode table's own numbering of the bits. -/

namespace Sys2Proof

/-- OP = `CMD[3:0]` (R57). -/
def cmdOp (w : CmdWord) : BitVec 4 := w.extractLsb' 0 4

/-- RSV = `CMD[7:4]` (R57). -/
def cmdRsv (w : CmdWord) : BitVec 4 := w.extractLsb' 4 4

/-- B = `CMD[15:8]` (R57). -/
def cmdB (w : CmdWord) : Byte := w.extractLsb' 8 8

/-- V = `CMD[31:16]` (R57). -/
def cmdV (w : CmdWord) : Half := w.extractLsb' 16 16

/-- Formats N and S (R58): B and V must be 0. -/
def formatNS (i : Instr) (w : CmdWord) : Except Reject Instr :=
  if cmdB w ≠ 0 then .error .unusedB
  else if cmdV w ≠ 0 then .error .unusedV
  else .ok i

/-- Format B (R58): the operand is B; V must be 0. -/
def formatB (mk : Byte → Instr) (w : CmdWord) : Except Reject Instr :=
  if cmdV w ≠ 0 then .error .unusedV else .ok (mk (cmdB w))

/-- Format V (R58): the operand is V; B must be 0. The range of v is checked where the command is performed (R103). -/
def formatV (mk : Half → Instr) (w : CmdWord) : Except Reject Instr :=
  if cmdB w ≠ 0 then .error .unusedB else .ok (mk (cmdV w))

/-- The command decoder: RSV must be 0 in every format (R58), then OP selects the row of R57. -/
def decodeCommand (w : CmdWord) : Except Reject Instr :=
  if cmdRsv w ≠ 0 then .error .reservedBits
  else
    match (cmdOp w).toNat with
    | 0 => formatNS .reset w
    | 1 => formatNS .crcInit w
    | 2 => formatB .crcByte w
    | 3 => formatNS .crcRead w
    | 4 => formatNS .crc16 w
    | 5 => formatNS .advance w
    | 6 => formatNS .current w
    | 7 => formatNS .classify w
    | 8 => formatV .build w
    | 9 => formatNS .iterate w
    | _ => .error .reservedOp

/-- The frame decoder: format RQ (R50), the one class RD_IR0 (R55). QTY is big-endian (R51); the checksum bytes are
kept as they stand on the wire. -/
def decodeFrame (f : List Byte) : Except Reject Instr :=
  match f with
  | [addr, func, startHi, startLo, qtyHi, qtyLo, crcLo, crcHi] =>
    if addr ≠ Config.SLAVE_ADDR then .error .frameAddr
    else if func ≠ Config.FUNC_RIR then .error .frameFunc
    else if startHi ++ startLo ≠ Config.START_ADDR then .error .frameStart
    else .ok (.rdIr0 (qtyHi ++ qtyLo) crcLo crcHi)
  | _ => .error .frameLength

/-- The decoder, total on any command word and any byte sequence. -/
def decode : Code → Except Reject Instr
  | .command w => decodeCommand w
  | .frame f => decodeFrame f

/-- A command word from its fields (R57): V, B, RSV = 0 and OP, most significant first. -/
def commandWord (v : Half) (b : Byte) (op : BitVec 4) : CmdWord := v ++ b ++ 0#4 ++ op

/-- The encoder, from the tables of R55 and R61. -/
def encode : Instr → Code
  | .reset => .command (commandWord 0 0 0x0)
  | .crcInit => .command (commandWord 0 0 0x1)
  | .crcByte b => .command (commandWord 0 b 0x2)
  | .crcRead => .command (commandWord 0 0 0x3)
  | .crc16 => .command (commandWord 0 0 0x4)
  | .advance => .command (commandWord 0 0 0x5)
  | .current => .command (commandWord 0 0 0x6)
  | .classify => .command (commandWord 0 0 0x7)
  | .build v => .command (commandWord v 0 0x8)
  | .iterate => .command (commandWord 0 0 0x9)
  | .rdIr0 qty crcLo crcHi => .frame [0x01, 0x04, 0x00, 0x00, hiByte qty, loByte qty, crcLo, crcHi]

/-- The 8 bytes of a frame word FW, "Byte 0 is the most significant" (R53). -/
def frameOfWord (fw : BitVec 64) : Vector Byte 8 :=
  #v[fw.extractLsb' 56 8, fw.extractLsb' 48 8, fw.extractLsb' 40 8, fw.extractLsb' 32 8,
     fw.extractLsb' 24 8, fw.extractLsb' 16 8, fw.extractLsb' 8 8, fw.extractLsb' 0 8]

/-- A row of the opcode table's bits, as the table numbers them: a command word has bit 0 as OP's lowest bit (R57), a
frame word has byte 0 in bits 63 to 56 (R53, log 13). -/
def codeOfTableWord (nbits w : Nat) : Option Code :=
  if 2 ^ nbits ≤ w then none
  else if nbits ≤ 32 then some (.command (BitVec.ofNat 32 w))
  else if nbits ≤ 64 then some (.frame (frameOfWord (BitVec.ofNat 64 w)).toList)
  else none

/-- The instruction the decoder reads from a row's bits; `none` where it refuses. -/
def decodeTableWord (nbits w : Nat) : Option Instr :=
  match codeOfTableWord nbits w with
  | some c => (decode c).toOption
  | none => none

/-- A row of spec/opcode_table.json: the words w with `w &&& mask = value`. -/
structure TableRow where
  mask : CmdWord
  value : CmdWord
  deriving DecidableEq, Repr

/-- The ten 32-bit rows of spec/opcode_table.json, mask and match as the table gives them. -/
def commandTable : List TableRow :=
  [⟨0xFFFFFFFF, 0x00000000⟩, ⟨0xFFFFFFFF, 0x00000001⟩, ⟨0xFFFF00FF, 0x00000002⟩, ⟨0xFFFFFFFF, 0x00000003⟩,
   ⟨0xFFFFFFFF, 0x00000004⟩, ⟨0xFFFFFFFF, 0x00000005⟩, ⟨0xFFFFFFFF, 0x00000006⟩, ⟨0xFFFFFFFF, 0x00000007⟩,
   ⟨0x0000FFFF, 0x00000008⟩, ⟨0xFFFFFFFF, 0x00000009⟩]

/-- The row of an instruction's command words; RD_IR0 has a frame word instead (R53). -/
def Instr.row : Instr → Option TableRow
  | .reset => commandTable[0]?
  | .crcInit => commandTable[1]?
  | .crcByte _ => commandTable[2]?
  | .crcRead => commandTable[3]?
  | .crc16 => commandTable[4]?
  | .advance => commandTable[5]?
  | .current => commandTable[6]?
  | .classify => commandTable[7]?
  | .build _ => commandTable[8]?
  | .iterate => commandTable[9]?
  | .rdIr0 _ _ _ => none

/-- Whether a word belongs to a row. -/
def TableRow.holds (r : TableRow) (w : CmdWord) : Bool := w &&& r.mask == r.value

end Sys2Proof
end

