-- ==== Sys2Proof/Machine/State.lean ====
section
/-! DEFINITION. The state of MBCORE: its registers (10_state.md R10 to R17), the values on its ports (R19), what it has
put out (R20), its parameters (R6) and the model's own bookkeeping; the reasons a step can stop; the state at reset. -/

namespace Sys2Proof.Machine

/-- The sequencer's position, "MBCORE's analogue of a program counter" (R16). Its 3-bit codes are `Phase.code`. -/
inductive Phase where
  /-- P_TOP: the iteration boundary. -/
  | top
  /-- P_ADV: time-advance. -/
  | adv
  /-- P_READ: bounded-time channel read. -/
  | read
  /-- P_CLASSIFY: RQV classifies RXBUF. -/
  | classify
  /-- P_BUILD: RSB builds TXBUF. -/
  | build
  /-- P_WRITE: channel write of TXBUF. -/
  | write
  /-- P_YIELD: the pause between iterations. -/
  | yield
  /-- P_HALT: stopped or fatal; only RESET leaves it. -/
  | halt
  deriving DecidableEq, Repr

/-- The STATUS register's four values (R131). Its 2-bit codes are `Status.code`. -/
inductive Status where
  /-- RUN: no stop, no fault. -/
  | run
  /-- STOPPED: stopped by the stop input at an iteration boundary. -/
  | stopped
  /-- FAULT_RX: transport hard failure on read. -/
  | faultRx
  /-- FAULT_TX: transport hard failure on write. -/
  | faultTx
  deriving DecidableEq, Repr

/-- The channel's answer to ChanRead (R19, R40). -/
inductive RxAnswer where
  /-- `Bytes(s)`: the bytes read, `s[0]` first; R40 gives it at most 8 bytes. -/
  | bytes (s : List Byte)
  /-- `Fail`: a transport hard failure. -/
  | fail
  deriving DecidableEq, Repr

/-- The channel's answer to ChanWrite (R19, R41). -/
inductive TxAnswer where
  /-- `Ok`: all bytes were sent, in order. -/
  | ok
  /-- `Fail`: a transport hard failure; MBCORE is not told how many bytes left. -/
  | fail
  deriving DecidableEq, Repr

/-- The input ports (R19), with the values one transaction is performed under. -/
structure Ports where
  /-- CMD: the command word (R57). -/
  cmd : CmdWord
  /-- NOW: the current time in ticks, a natural number (D2). -/
  now : Nat
  /-- STOP: the stop request. -/
  stop : Bool
  /-- BUF: a byte sequence of any length (R58, D26). -/
  buf : List Byte
  /-- The RX answer. -/
  rx : RxAnswer
  /-- The TX answer; `none` when the channel never answers (R44), or when there is no write to answer (R60). -/
  tx : Option TxAnswer
  deriving DecidableEq, Repr

/-- What a command returns on RESULT (R20, R57). -/
inductive Result where
  /-- A 16-bit value (CRC_READ, CRC16, CURRENT). -/
  | value (v : Half)
  /-- A 1-bit class: 1 = Accepted, 0 = Rejected (CLASSIFY). -/
  | verdict (c : BitVec 1)
  /-- A byte sequence (BUILD). -/
  | bytes (f : List Byte)
  deriving DecidableEq, Repr

/-- What MBCORE does at its boundary, in the order it does it. Log 14. -/
inductive Event where
  /-- RESULT carries a command's value (R20). -/
  | result (r : Result)
  /-- ChanRead(n, t) is called (R40). -/
  | chanRead (n t : Nat)
  /-- ChanWrite(s) is called: the TX bytes (R20, R41). -/
  | chanWrite (s : List Byte)
  /-- MON(request, response) (R121). -/
  | mon (request response : List Byte)
  /-- The pause of P_YIELD, of the given length (R117). -/
  | pause (t : Nat)
  deriving DecidableEq, Repr

/-- The state. `meas` to `status` are the registers of R10 to R17; R18 says there is no other. -/
structure State where
  /-- MEAS, 11 bits (R10). -/
  meas : BitVec 11
  /-- LAST_ADV, in ticks (R12). -/
  lastAdv : Nat
  /-- CRC_ACC, 16 bits (R13). -/
  crcAcc : Half
  /-- RXBUF[0..7] (R14). -/
  rxbuf : Vector Byte 8
  /-- RXLEN, 4 bits (R14). -/
  rxlen : BitVec 4
  /-- TXBUF[0..6] (R15). -/
  txbuf : Vector Byte 7
  /-- PHASE (R16). -/
  phase : Phase
  /-- STATUS (R17). -/
  status : Status
  /-- The values on the input ports in the transaction being performed (R19). -/
  ports : Ports
  /-- The parameters of R6; no step changes them. Log 6. -/
  cfg : Config
  /-- Whether the first RESET has been performed (R152). Log 11. -/
  resetSeen : Bool
  /-- The transactions the host has presented and MBCORE has not performed yet, next one first (R45). The host adds to
  them between steps, without end if it likes (R119): `State.present`. Log 1. -/
  host : List Ports
  /-- What MBCORE has done at its boundary so far, oldest first (R20). Log 14. -/
  trace : List Event
  /-- The bytes that have reached the master so far, oldest first (R41). Log 8. -/
  wire : List Byte
  /-- How many free values have been used. Logs 4, 5 and 8. -/
  draws : Nat
  deriving DecidableEq, Repr

/-- Why the machine stops with a fault. The fatal errors of R132 are no faults in this sense: they are taken, and the
state after them is a next state. -/
inductive Fault where
  /-- Raised by P_WRITE (ITERATE, RD_IR0) when the channel never answers ChanWrite: "MBCORE in P_WRITE with no step. A
  model represents this as stuck" (R44, D31). Safe. Log 9. -/
  | stuckInWrite
  deriving DecidableEq, Repr

/-- Why a transaction has no meaning: "It has no step, and the run is marked refused" (R59). -/
inductive Refusal where
  /-- An instruction without a meaning in this model; raised by no arm of `exec`. Safe. -/
  | notModelled (mnemonic : String)
  /-- Raised by `step` on a reserved command word (R59). Safe. -/
  | reservedCommand (r : Reject)
  /-- Raised by every command but RESET before the first RESET (R152). Safe. Log 11. -/
  | beforeReset
  /-- Raised by every command but RESET in P_HALT or while STATUS is not RUN (R59, R133). Safe. -/
  | halted
  /-- Raised by ITERATE when PHASE is not P_TOP (R118). Safe. -/
  | notAtTop
  /-- Raised by RD_IR0 when PHASE is not P_CLASSIFY: no frame is being decoded (R114). Safe. Log 12. -/
  | notClassifying
  /-- Raised by every instruction and by `step` when MEAS holds 2001..2047 (R11). Safe. Log 10. -/
  | illFormedMeas
  /-- Raised by BUILD v with v > 2000 (R103). Safe. -/
  | buildOutOfRange
  /-- Raised by RESET, ADVANCE and P_ADV when a counter of TIME_W bits cannot hold NOW (D3). Safe. Log 7. -/
  | timeWrap
  /-- Raised by P_READ when the RX answer holds more than 8 bytes, which R40 says it never does. Safe. Log 15. -/
  | rxTooLong
  deriving DecidableEq, Repr

/-- How `step` finds what to run next: see `fetch` in Machine/Ops.lean. -/
inductive Fetched where
  /-- No transaction is presented. -/
  | idle
  /-- The host presents a transaction; `rest` are those after it. -/
  | command (t : Ports) (rest : List Ports)
  /-- The sequencer stands at P_CLASSIFY with this frame in RXBUF. -/
  | frame (bytes : List Byte)
  /-- The sequencer stands at another phase inside an iteration. -/
  | unfinished
  deriving DecidableEq, Repr

/-- The parameters in `State.reset` and `State.powerOn`: DESIGN CHOICE, log 6 (T1S = 1000 is the value the spec's
vectors use). -/
def initialConfig : Config :=
  { t1s := 1000, timeW := none, readTimeout := 100, yieldTime := 10 }

/-- The port values in `State.reset`: DESIGN CHOICE, log 3. -/
def initialPorts : Ports :=
  { cmd := 0, now := 0, stop := false, buf := [], rx := .bytes [], tx := some .ok }

/-- The machine right after RESET performed with NOW = 0 (R23, R150). RXBUF and TXBUF, which the spec lets hold any
value, are zero here: DESIGN CHOICE, log 3. -/
def State.reset : State :=
  { meas := 0, lastAdv := 0, crcAcc := 0xFFFF
    rxbuf := #v[0, 0, 0, 0, 0, 0, 0, 0], rxlen := 0, txbuf := #v[0, 0, 0, 0, 0, 0, 0]
    phase := .top, status := .run
    ports := initialPorts, cfg := initialConfig, resetSeen := true
    host := [], trace := [], wire := [], draws := 0 }

/-- A machine before its first RESET: its state is unspecified (R152), so the register values here are placeholders
that no meaning but RESET's is performed on. DESIGN CHOICE, log 11. -/
def State.powerOn : State := { State.reset with resetSeen := false }

end Sys2Proof.Machine
end

