-- ==== Sys2Proof/Machine/Flags.lean ====
section
/-! DEFINITION. The codes of STATUS and PHASE. MBCORE has no condition codes: STATUS is "the only flag-like state"
(R18), and no command computes a flag as a side effect. -/

namespace Sys2Proof.Machine

/-- The 2-bit code of STATUS (R131). -/
def Status.code : Status → BitVec 2
  | .run => 0
  | .stopped => 1
  | .faultRx => 2
  | .faultTx => 3

/-- The status a 2-bit code stands for (R131); every code is used. -/
def Status.ofCode (c : BitVec 2) : Status :=
  match c.toNat with
  | 0 => .run
  | 1 => .stopped
  | 2 => .faultRx
  | _ => .faultTx

/-- The 3-bit code of PHASE (R16). -/
def Phase.code : Phase → BitVec 3
  | .top => 0
  | .adv => 1
  | .read => 2
  | .classify => 3
  | .build => 4
  | .write => 5
  | .yield => 6
  | .halt => 7

/-- The phase a 3-bit code stands for (R16); every code is used. -/
def Phase.ofCode (c : BitVec 3) : Phase :=
  match c.toNat with
  | 0 => .top
  | 1 => .adv
  | 2 => .read
  | 3 => .classify
  | 4 => .build
  | 5 => .write
  | 6 => .yield
  | _ => .halt

/-- The STATUS output port: it is driven by the STATUS register (R17, R20). -/
def State.statusPort (s : State) : BitVec 2 := s.status.code

end Sys2Proof.Machine
end

