-- ==== Sys2Proof/Machine/Operands.lean ====
section
/-! DEFINITION. Where operands come from (R58): the side-band ports, the receive buffer, the input-register space; and
how a request frame's fields are assembled (R51). -/

namespace Sys2Proof.Machine

/-- RXBUF as the sequence RXBUF[0..7]. -/
def State.rxFrame (s : State) : List Byte := s.rxbuf.toList

/-- TXBUF as the sequence TXBUF[0..6]. -/
def State.txFrame (s : State) : List Byte := s.txbuf.toList

/-- `zext_16(MEAS)`: the one read of MEAS that a command or a frame makes (R38, R81, R115). -/
def State.measValue (s : State) : Half := s.meas.setWidth 16

/-- The Modbus input-register space (R30): one register, at 0x0000, that reads MEAS. -/
def State.inputRegister (s : State) (addr : Half) : Option Half :=
  if addr = Config.START_ADDR then some s.measValue else none

/-- START of a request frame, big-endian (R51). -/
def frameStart (f : Vector Byte 8) : Half := f[2] ++ f[3]

/-- QTY of a request frame, big-endian (R51); no rule reads it. -/
def frameQty (f : Vector Byte 8) : Half := f[4] ++ f[5]

/-- CRC_RX of a request frame, little-endian (R51); no rule reads it. -/
def frameCrcRx (f : Vector Byte 8) : Half := f[7] ++ f[6]

end Sys2Proof.Machine
end

