-- ==== Sys2Proof/Machine/Ops.lean ====
section
/-! DEFINITION. The operations the meanings share: the pure functions of CHK, RQV and RSB, the updates of State, the
advance of DST, the fatal entry, and what every transaction checks first. -/

namespace Sys2Proof.Machine

/-- A step's outcome. -/
abbrev Out := Host.Outcome State Fault Refusal

/-! ### CHK (40_checksum.md section 1) -/

/-- CrcStep (R70): the bit tested is the bit shifted out; the shift comes first, the XOR second. -/
def crcStep (a : Half) : Half :=
  if a.getLsbD 0 then (a >>> 1) ^^^ Config.CRC_POLY else a >>> 1

/-- CrcByte (R71): XOR the byte into the low 8 bits, then 8 steps. -/
def crcByte (a : Half) (b : Byte) : Half :=
  Nat.repeat crcStep 8 (a ^^^ b.setWidth 16)

/-- Crc (R71): the checksum of a byte sequence. -/
def crc (s : List Byte) : Half := s.foldl crcByte Config.CRC_INIT

/-- CrcBytes (R72): the wire encoding, low byte first. -/
def crcBytes (c : Half) : Vector Byte 2 := #v[loByte c, hiByte c]

/-! ### RQV (42_validator.md) -/

/-- The two classes of R90. -/
inductive Verdict where
  | accepted
  | rejected
  deriving DecidableEq, Repr

/-- Classify (R90): length, slave address, function code and the two bytes of the starting address. -/
def classify (buf : List Byte) : Verdict :=
  if buf.length ≠ Config.REQ_LEN then .rejected
  else if buf[0]? ≠ some Config.SLAVE_ADDR then .rejected
  else if buf[1]? ≠ some Config.FUNC_RIR then .rejected
  else if buf[2]? ≠ some (hiByte Config.START_ADDR) then .rejected
  else if buf[3]? ≠ some (loByte Config.START_ADDR) then .rejected
  else .accepted

/-- CLASSIFY's RESULT: 1 = Accepted, 0 = Rejected (R57, R90). -/
def Verdict.bit : Verdict → BitVec 1
  | .accepted => 1
  | .rejected => 0

/-! ### RSB (43_builder.md) -/

/-- The 5 bytes a response begins with (R100): slave address, function code, byte count, the value big-endian. -/
def responseHead (v : Half) : Vector Byte 5 :=
  #v[Config.SLAVE_ADDR, Config.FUNC_RIR, Config.BYTE_COUNT, hiByte v, loByte v]

/-- Build (R100): the head and its checksum. -/
def build (v : Half) : Vector Byte 7 :=
  responseHead v ++ crcBytes (crc (responseHead v).toList)

/-! ### Updates of State -/

/-- An event at the boundary (R20, R40, R41, R121). -/
def State.emit (s : State) (e : Event) : State := { s with trace := s.trace ++ [e] }

/-- `RESULT <- r` (R20). -/
def State.putResult (s : State) (r : Result) : State := s.emit (.result r)

/-- `PHASE <- p` (00_scope.md section 5). -/
def State.goto (s : State) (p : Phase) : State := { s with phase := p }

/-- `STATUS <- c`. -/
def State.setStatus (s : State) (c : Status) : State := { s with status := c }

/-- `CRC_ACC <- a`. -/
def State.setCrcAcc (s : State) (a : Half) : State := { s with crcAcc := a }

/-- `MEAS <- m` and `LAST_ADV <- t`, "both or neither" (R80). -/
def State.setMeas (s : State) (m : BitVec 11) (t : Nat) : State := { s with meas := m, lastAdv := t }

/-- Byte i of a buffer that s fills from index 0; past its end a free value (R113, D30, log 5). -/
def State.byteOr (s : State) (b : List Byte) (i : Nat) : Byte := b.getD i (Config.freeByte (s.draws + i))

/-- The channel read of P_READ: RXLEN and RXBUF (R113). -/
def State.loadRx (s : State) (b : List Byte) : State :=
  { s with
    rxlen := BitVec.ofNat 4 b.length
    rxbuf := #v[s.byteOr b 0, s.byteOr b 1, s.byteOr b 2, s.byteOr b 3,
                s.byteOr b 4, s.byteOr b 5, s.byteOr b 6, s.byteOr b 7]
    draws := s.draws + 8 }

/-- `TXBUF <- f` (R115). -/
def State.loadTx (s : State) (f : Vector Byte 7) : State := { s with txbuf := f }

/-- The first n bytes of TXBUF reach the master (R41); `used` free values go into n. -/
def State.deliver (s : State) (n used : Nat) : State :=
  { s with wire := s.wire ++ s.txFrame.take n, draws := s.draws + used }

/-- The host presents a transaction: its values stand on the ports (R19, R45). -/
def State.latch (s : State) (t : Ports) (rest : List Ports) : State := { s with ports := t, host := rest }

/-- The host presents one more transaction, after those it has already presented (R45). The host does so between
transactions, as often as it likes and without end (R119). Log 1. -/
def State.present (s : State) (t : Ports) : State := { s with host := s.host ++ [t] }

/-- Every register at its reset value, with LAST_ADV at now0 (R23, R150). RXBUF and TXBUF hold free values (log 4). -/
def State.initialise (s : State) (now0 : Nat) : State :=
  { s with
    meas := 0, lastAdv := now0, crcAcc := Config.CRC_INIT
    rxbuf := #v[s.byteOr [] 0, s.byteOr [] 1, s.byteOr [] 2, s.byteOr [] 3,
                s.byteOr [] 4, s.byteOr [] 5, s.byteOr [] 6, s.byteOr [] 7]
    rxlen := 0
    txbuf := #v[s.byteOr [] 8, s.byteOr [] 9, s.byteOr [] 10, s.byteOr [] 11,
                s.byteOr [] 12, s.byteOr [] 13, s.byteOr [] 14]
    phase := .top, status := .run, resetSeen := true, draws := s.draws + 15 }

/-! ### DST (41_device_state.md) -/

/-- `elapsed = now - LAST_ADV`, an integer that may be negative (R80, D3). -/
def State.elapsed (s : State) (now : Nat) : Int := (now : Int) - (s.lastAdv : Int)

/-- `(MEAS + 1) mod 2001` (R80). -/
def measSucc (m : BitVec 11) : BitVec 11 := BitVec.ofNat 11 ((m.toNat + 1) % Config.MEAS_MOD)

/-- ADVANCE(now) (R80): the test is `>=`, the step is one, and LAST_ADV becomes now. -/
def State.advance (s : State) (now : Nat) : State :=
  if (s.cfg.t1s : Int) ≤ s.elapsed now then s.setMeas (measSucc s.meas) now else s

/-- Whether a counter of TIME_W bits holds the time (D3): a run in which it would wrap is refused (log 7). -/
def timeFits (c : Config) (now : Nat) : Bool :=
  match c.timeW with
  | none => true
  | some w => decide (now < 2 ^ w)

/-! ### Fatal entry (60_exceptions.md section 2) -/

/-- raise Fatal(code) (R132): STATUS and PHASE change and nothing else. There is no handler and no return (R134):
only RESET, `State.initialise`, leaves P_HALT. -/
def State.raiseFatal (s : State) (code : Status) : State := (s.setStatus code).goto .halt

/-! ### What a transaction checks first -/

/-- R11: "A model state in which MEAS holds such a value is ill-formed." Before the first RESET nothing is known of
MEAS (R152). Log 10. -/
def State.illFormed (s : State) : Bool := s.resetSeen && decide (Config.MEAS_MAX < s.meas.toNat)

/-- Why every instruction but RESET would be refused in this state, if it would (R11, R59, R133, R152). -/
def State.refusal (s : State) : Option Refusal :=
  if s.resetSeen = false then some .beforeReset
  else if s.illFormed then some .illFormedMeas
  else if s.status ≠ .run then some .halted
  else if s.phase = .halt then some .halted
  else none

/-- Perform `o` unless the state refuses every instruction but RESET. "A refusal comes before all of them" (R136). -/
def State.perform (s : State) (o : Out) : Out :=
  match s.refusal with
  | some r => .refused r
  | none => o

/-- Sequencing of outcomes: a fault or a refusal ends it. -/
def andThen (o : Out) (f : State → Out) : Out :=
  match o with
  | .next s => f s
  | .fault r => .fault r
  | .refused r => .refused r

/-- The host's next transaction, if it presents one (R45). -/
def State.nextTransaction (s : State) : Fetched :=
  match s.host with
  | [] => .idle
  | t :: rest => .command t rest

/-- What `step` runs next. Before the first RESET every register is unspecified, PHASE among them, and RESET alone starts
a run (R152): it is the command the host presents. After it, at P_TOP and P_HALT it is that command (R16, R118); at
P_CLASSIFY it is the frame in RXBUF (R114), all 8 bytes of it whatever RXLEN holds (log 19); at the other phases an
iteration is under way. Logs 11 and 12. -/
def fetch (s : State) : Fetched :=
  if s.resetSeen = false then s.nextTransaction
  else
    match s.phase with
    | .top | .halt => s.nextTransaction
    | .classify => .frame s.rxFrame
    | .adv | .read | .build | .write | .yield => .unfinished

end Sys2Proof.Machine
end

