-- ==== Sys2Proof/Machine/Builder.lean ====
section
/-! DEFINITION. RSB: BUILD (43_builder.md section 1). -/

namespace Sys2Proof.Machine

/-- BUILD v (R100): no register changes, TXBUF included; v > 2000 is outside the contract and refused (R103). -/
def execBuild (v : Half) (s : State) : Out :=
  s.perform
    (if v.toNat ≤ Config.MEAS_MAX then .next (s.putResult (.bytes (build v).toList)) else .refused .buildOutOfRange)

end Sys2Proof.Machine
end

