-- ==== Sys2Proof/Machine/Checksum.lean ====
section
/-! DEFINITION. CHK: CRC_INIT, CRC_BYTE, CRC_READ and CRC16 (40_checksum.md section 2). -/

namespace Sys2Proof.Machine

/-- CRC_INIT (R73): a partial value is thrown away. -/
def execCrcInit (s : State) : Out :=
  s.perform (.next (s.setCrcAcc Config.CRC_INIT))

/-- CRC_BYTE b (R74): works from whatever CRC_ACC holds. -/
def execCrcByte (b : Byte) (s : State) : Out :=
  s.perform (.next (s.setCrcAcc (crcByte s.crcAcc b)))

/-- CRC_READ (R75): no register changes. -/
def execCrcRead (s : State) : Out :=
  s.perform (.next (s.putResult (.value s.crcAcc)))

/-- CRC16 (R76): the checksum of BUF; CRC_ACC is neither read nor written (D25). -/
def execCrc16 (s : State) : Out :=
  s.perform (.next (s.putResult (.value (crc s.ports.buf))))

end Sys2Proof.Machine
end

