-- ==== Sys2Proof/Machine/DeviceState.lean ====
section
/-! DEFINITION. DST: ADVANCE and CURRENT (41_device_state.md section 1). -/

namespace Sys2Proof.Machine

/-- ADVANCE (R80), with now from the NOW port. A NOW that a TIME_W-bit counter cannot hold is refused (D3, log 7). -/
def execAdvance (s : State) : Out :=
  s.perform
    (if timeFits s.cfg s.ports.now then .next (s.advance s.ports.now) else .refused .timeWrap)

/-- CURRENT (R81): no register changes. -/
def execCurrent (s : State) : Out :=
  s.perform (.next (s.putResult (.value s.measValue)))

end Sys2Proof.Machine
end

