-- ==== Sys2Proof/Machine/Loop.lean ====
section
/-! DEFINITION. SEQ: the phases of an iteration (44_loop.md section 1), ITERATE, and the request frame RD_IR0 that an
iteration decodes. -/

namespace Sys2Proof.Machine

/-- P_TOP (R111): the only place STOP is sampled. -/
def phaseTop (s : State) : Out :=
  if s.ports.stop then .next ((s.setStatus .stopped).goto .halt) else .next (s.goto .adv)

/-- P_ADV (R112). -/
def phaseAdv (s : State) : Out :=
  if timeFits s.cfg s.ports.now then .next ((s.advance s.ports.now).goto .read) else .refused .timeWrap

/-- P_READ (R113): ChanRead(8, READ_TIMEOUT). Fewer than 8 bytes is "take no action this iteration". -/
def phaseRead (s : State) : Out :=
  let s := s.emit (.chanRead Config.READ_MAX s.cfg.readTimeout)
  match s.ports.rx with
  | .fail => .next (s.raiseFatal .faultRx)
  | .bytes b =>
    if b.length ≤ Config.READ_MAX then
      .next ((s.loadRx b).goto (if b.length = Config.REQ_LEN then .classify else .yield))
    else .refused .rxTooLong

/-- P_CLASSIFY (R114): a Rejected frame is silently dropped. The frame is RXBUF[0..7], as R114 writes it; R90 writes
RXBUF[0..RXLEN-1]. P_READ comes here with RXLEN = 8 only (R113), where the two are one; in a state at P_CLASSIFY with
another RXLEN, which no iteration reaches, the model takes all 8 bytes: DESIGN CHOICE, log 19. -/
def phaseClassify (s : State) : Out :=
  .next (s.goto (if classify s.rxFrame = .accepted then .build else .yield))

/-- P_BUILD (R115): MEAS is read once. -/
def phaseBuild (s : State) : Out :=
  .next ((s.loadTx (build s.measValue)).goto .write)

/-- P_WRITE (R116): ChanWrite(TXBUF[0..6]). On Ok all 7 bytes reach the master and MON fires (R41, R121); on Fail some
free number of them does (D16, log 8) and MON does not; without an answer MBCORE is stuck (R44, log 9). -/
def phaseWrite (s : State) : Out :=
  let s := s.emit (.chanWrite s.txFrame)
  match s.ports.tx with
  | none => .fault .stuckInWrite
  | some .fail => .next ((s.deliver (Config.freeCount s.draws % 8) 1).raiseFatal .faultTx)
  | some .ok => .next (((s.deliver 7 0).emit (.mon s.rxFrame s.txFrame)).goto .yield)

/-- P_YIELD (R117): no register but PHASE changes; YIELD_TIME is timing only. -/
def phaseYield (s : State) : Out :=
  .next ((s.emit (.pause s.cfg.yieldTime)).goto .top)

/-- One phase. "nothing runs in P_HALT" (R134). -/
def phaseStep (s : State) : Out :=
  match s.phase with
  | .top => phaseTop s
  | .adv => phaseAdv s
  | .read => phaseRead s
  | .classify => phaseClassify s
  | .build => phaseBuild s
  | .write => phaseWrite s
  | .yield => phaseYield s
  | .halt => .next s

/-- At most k further phases, ending where PHASE is P_TOP or P_HALT (R16). -/
def runPhases : Nat → State → Out
  | 0, s => .next s
  | k + 1, s => if s.phase = .top ∨ s.phase = .halt then .next s else andThen (phaseStep s) (runPhases k)

/-- Finish the iteration under way: from P_ADV there are six phases to P_TOP (R110). -/
def finishIteration (s : State) : Out := s.perform (runPhases 6 s)

/-- ITERATE (R118): from P_TOP back to P_TOP, or to P_HALT. -/
def execIterate (s : State) : Out :=
  s.perform (if s.phase = .top then andThen (phaseStep s) (runPhases 6) else .refused .notAtTop)

/-- RD_IR0 (R55): "Accepted and answered (44_loop.md rules R114 to R116)". It is decoded in P_CLASSIFY, from RXBUF, and
takes the iteration from there to its end. No rule reads its quantity or its checksum (R51, R91). Log 12. -/
def execRdIr0 (_qty : Half) (_crcLo _crcHi : Byte) (s : State) : Out :=
  s.perform (if s.phase = .classify then runPhases 6 (s.goto .build) else .refused .notClassifying)

end Sys2Proof.Machine
end

