-- ==== Sys2Proof/Machine/Reset.lean ====
section
/-! DEFINITION. RESET (70_reset_and_hazards.md section 1). -/

namespace Sys2Proof.Machine

/-- RESET (R150): accepted in every state, P_HALT included; now0 is the value on NOW. A state with MEAS in 2001..2047
is ill-formed and has no step (R11, log 10). -/
def execReset (s : State) : Out :=
  if s.illFormed then .refused .illFormedMeas
  else if timeFits s.cfg s.ports.now then .next (s.initialise s.ports.now)
  else .refused .timeWrap

end Sys2Proof.Machine
end

