-- ==== Sys2Proof/Machine/Validator.lean ====
section
/-! DEFINITION. RQV: CLASSIFY (42_validator.md section 1). -/

namespace Sys2Proof.Machine

/-- CLASSIFY (R90) on the BUF port: no register changes (R93). -/
def execClassify (s : State) : Out :=
  s.perform (.next (s.putResult (.verdict (classify s.ports.buf).bit)))

end Sys2Proof.Machine
end

