-- ==== Sys2Proof/Machine/Dispatch.lean ====
section
/-! DEFINITION. exec: one arm per instruction. -/

namespace Sys2Proof.Machine

/-- The meaning of an instruction on a state. -/
def exec (i : Instr) (s : State) : Host.Outcome State Fault Refusal :=
  match i with
  | .reset => Sys2Proof.Machine.execReset s
  | .crcInit => Sys2Proof.Machine.execCrcInit s
  | .crcByte b => Sys2Proof.Machine.execCrcByte b s
  | .crcRead => Sys2Proof.Machine.execCrcRead s
  | .crc16 => Sys2Proof.Machine.execCrc16 s
  | .advance => Sys2Proof.Machine.execAdvance s
  | .current => Sys2Proof.Machine.execCurrent s
  | .classify => Sys2Proof.Machine.execClassify s
  | .build v => Sys2Proof.Machine.execBuild v s
  | .iterate => Sys2Proof.Machine.execIterate s
  | .rdIr0 qty crcLo crcHi => Sys2Proof.Machine.execRdIr0 qty crcLo crcHi s

end Sys2Proof.Machine
end

