-- ==== Sys2Proof/Machine/Step.lean ====
section
/-! DEFINITION. One step of MBCORE: one transaction of the host. -/

namespace Sys2Proof.Machine

/-- One step (R45): the command the host presents is decoded and performed; a reserved word is refused (R59). With no
transaction presented nothing changes (log 2). Before the first RESET the command is looked at whatever PHASE holds, and
RESET alone is performed (R152, log 11). In a state inside an iteration the iteration is finished first: at P_CLASSIFY
the frame in RXBUF is what is decoded (R114, log 12). A state with MEAS in 2001..2047 has no step (R11). -/
def step (s : State) : Host.Outcome State Fault Refusal :=
  if s.illFormed then .refused .illFormedMeas
  else
    match fetch s with
    | .idle => .next s
    | .command t rest =>
      match decode (.command t.cmd) with
      | .ok i => exec i (s.latch t rest)
      | .error r => .refused (.reservedCommand r)
    | .frame f =>
      match decode (.frame f) with
      | .ok i => exec i s
      | .error _ => finishIteration s
    | .unfinished => finishIteration s

/-- `s` with an opcode-table word stored where `step` fetches: a command word as the next transaction, under the values
that stand on the ports; a frame word in RXBUF with PHASE at P_CLASSIFY (log 13). Before the first RESET no frame is
read (R152), so a frame word is fetched only after it. -/
def State.withFetchWord (s : State) (nbits w : Nat) : State :=
  match codeOfTableWord nbits w with
  | some (.command c) =>
    { s with
      host := { s.ports with cmd := c } :: s.host
      phase := if s.phase = .halt then .halt else .top }
  | some (.frame _) =>
    { s with rxbuf := frameOfWord (BitVec.ofNat 64 w), rxlen := 8, phase := .classify }
  | none => s

/-- `k` steps, stopping at the first fault or refusal. -/
def runSteps : Nat → State → Out
  | 0, s => .next s
  | k + 1, s => andThen (step s) (runSteps k)

/-- A run that ends: the host presents the transactions of a list, one before each step, and the run stops at the first
fault or refusal (R45). -/
def runOn : List Ports → State → Out
  | [], s => .next s
  | t :: ts, s => andThen (step (s.present t)) (runOn ts)

/-- An infinite run (R119): before step n the host presents the transaction `ins n`, one of an endless sequence that
nothing constrains, and every step answers the next state of the run. What is observed of it is the records of its
states, each of which extends the one before. Log 1. -/
def EndlessRun (ins : Nat → Ports) (r : Nat → State) : Prop :=
  ∀ n, step ((r n).present (ins n)) = .next (r (n + 1))

end Sys2Proof.Machine
end

