-- ==== Sys2Proof/Safety.lean ====
section
/-! DEFINITION. The terms the statements are made in: when a command executes normally, the invariant, how a run ends,
the phase order of R110, and R118's own account of one iteration, written apart from the phases. -/

namespace Sys2Proof.Machine

/-- The state accepts every command of its phase: the first RESET has been performed (R152), MEAS is legal (R11),
STATUS is RUN and PHASE is not P_HALT (R59, R133). -/
structure Accepting (s : State) : Prop where
  resetSeen : s.resetSeen = true
  measLegal : s.meas.toNat ≤ 2000
  running : s.status = .run
  notHalted : s.phase ≠ .halt

/-- Between transactions, once the first RESET has been performed (R16): MEAS is in 0..2000 (R10, R11), RXLEN is in 0..8
(R14), PHASE is P_TOP or P_HALT, and P_HALT goes with a STATUS other than RUN (R133). Before the first RESET the registers
are unspecified (R152), and nothing is said of them. -/
structure Inv (s : State) : Prop where
  measLegal : s.resetSeen = true → s.meas.toNat ≤ 2000
  rxlenLegal : s.resetSeen = true → s.rxlen.toNat ≤ 8
  atBoundary : s.resetSeen = true → s.phase = .top ∨ s.phase = .halt
  haltIffStopped : s.resetSeen = true → (s.phase = .halt ↔ s.status ≠ .run)

/-- The values one ITERATE may be given so that the spec says what it does: a NOW that TIME_W bits hold (D3, log 7), an RX
answer of at most 8 bytes (R40), and a ChanWrite that returns (R44). -/
structure LoopInput (c : Config) (p : Ports) : Prop where
  nowFits : timeFits c p.now = true
  readBounded : ∀ b, p.rx = .bytes b → b.length ≤ 8
  writeReturns : p.tx ≠ none

/-- The clean end of a run, "reached only through STOP" (R119, R133). -/
def CleanEnd (s : State) : Prop := s.phase = .halt ∧ s.status = .stopped

/-- A fatal end, which is never a good final state (R119, R133). -/
def FatalEnd (s : State) : Prop := s.phase = .halt ∧ (s.status = .faultRx ∨ s.status = .faultTx)

/-- The arrows of R110's diagram, with those its list adds to P_HALT. -/
def phaseArrow : Phase → Phase → Bool
  | .top, .adv => true
  | .top, .halt => true
  | .adv, .read => true
  | .read, .classify => true
  | .read, .yield => true
  | .read, .halt => true
  | .classify, .build => true
  | .classify, .yield => true
  | .build, .write => true
  | .write, .yield => true
  | .write, .halt => true
  | .yield, .top => true
  | _, _ => false

/-- How many ChanRead calls a list of events holds. -/
def countReads (es : List Event) : Nat := es.countP fun e => match e with | .chanRead _ _ => true | _ => false

/-- How many ChanWrite calls a list of events holds. -/
def countWrites (es : List Event) : Nat := es.countP fun e => match e with | .chanWrite _ => true | _ => false

/-- How many MON events a list of events holds. -/
def countMons (es : List Event) : Nat := es.countP fun e => match e with | .mon _ _ => true | _ => false

/-- The iteration has a request to answer: 8 bytes were read and they are Accepted (R118). -/
def answers (b : List Byte) : Bool := b.length == 8 && classify b == .accepted

/-- A transaction with this command word under the port values p. -/
def Ports.withCmd (p : Ports) (i : Instr) : Ports :=
  match encode i with
  | .command w => { p with cmd := w }
  | .frame _ => p

/-- The times ts are each at least T1S after the one before, the first after `last`: each ADVANCE at one of them
increments (R80, R83). -/
def spaced (t1s : Nat) : Nat → List Nat → Bool
  | _, [] => true
  | last, t :: ts => decide (last + t1s ≤ t) && spaced t1s t ts

/-- An outcome with its next state seen through f: two outcomes with the same image differ only in what f forgets. -/
def mapOut (f : State → State) (o : Out) : Out := andThen o fun s => .next (f s)

/-- Forget LAST_ADV (R21). -/
def forgetLastAdv (s : State) : State := { s with lastAdv := 0 }

/-- Forget the buffers and the streaming accumulator (R42, R120). -/
def forgetBuffers (s : State) : State :=
  { s with
    rxbuf := State.reset.rxbuf, rxlen := 0, txbuf := State.reset.txbuf, crcAcc := 0 }

/-- Forget which request was read: RXBUF, the RX answer, and the request half of MON (R31, R91). -/
def forgetRequest (s : State) : State :=
  { s with
    rxbuf := State.reset.rxbuf
    ports := { s.ports with rx := .fail }
    trace := s.trace.map fun e => match e with | .mon _ f => .mon [] f | e => e }

/-- The pseudocode of R118, on whole fields and without PHASE's intermediate values: what one ITERATE does from P_TOP.
The ChanRead call and the pause are the trace's (log 14), the free values those of logs 5 and 8. -/
def iterateAsR118 (s : State) : Out :=
  if s.ports.stop then .next { s with status := .stopped, phase := .halt }
  else if timeFits s.cfg s.ports.now = false then .refused .timeWrap
  else
    let a := s.advance s.ports.now
    let called := s.trace ++ [.chanRead 8 s.cfg.readTimeout]
    match s.ports.rx with
    | .fail => .next { a with trace := called, status := .faultRx, phase := .halt }
    | .bytes b =>
      if 8 < b.length then .refused .rxTooLong
      else
        let r := a.loadRx b
        if answers b then
          let f := build a.measValue
          let written := called ++ [.chanWrite f.toList]
          match s.ports.tx with
          | none => .fault .stuckInWrite
          | some .fail =>
            .next { r with
              txbuf := f, trace := written
              wire := s.wire ++ f.toList.take (Config.freeCount r.draws % 8), draws := r.draws + 1
              status := .faultTx, phase := .halt }
          | some .ok =>
            .next { r with
              txbuf := f, trace := written ++ [.mon b f.toList, .pause s.cfg.yieldTime]
              wire := s.wire ++ f.toList, phase := .top }
        else .next { r with trace := called ++ [.pause s.cfg.yieldTime], phase := .top }

end Sys2Proof.Machine
end

