-- ==== Sys2Proof/Certificates/Slice0/Obligations.lean ====
section
/-! DEFINITION. The statements about MBCORE, from the numbered rules of spec/. A premise `Accepting s` is when a command
executes normally (R11, R59, R133, R152); `timeFits` is D3's condition on NOW (log 7). -/

open Sys2Proof Sys2Proof.Machine

/-! ### CHK -/

/-- R70 and R71, on numbers: one step of the CRC, eight of them for a byte, and the fold over a sequence. -/
def Obligations.CrcFollowsTheBitwiseAlgorithm : Prop :=
  (∀ a : Half, (crcStep a).toNat = if a.toNat % 2 = 1 then (a.toNat / 2) ^^^ 0xA001 else a.toNat / 2) ∧
  (∀ (a : Half) (b : Byte), crcByte a b = crcStep^[8] (a ^^^ BitVec.ofNat 16 b.toNat)) ∧
  crc [] = 0xFFFF ∧
  (∀ (s : List Byte) (b : Byte), crc (s ++ [b]) = crcByte (crc s) b)

/-- R73: CRC_INIT. -/
def Obligations.CrcInitLoadsTheInitialValue : Prop :=
  encode .crcInit = .command 0x00000001 ∧
  ∀ s : State, Accepting s → exec .crcInit s = .next { s with crcAcc := 0xFFFF }

/-- R74: CRC_BYTE works from whatever CRC_ACC holds, at every byte; a zero accumulator stays zero under zero bytes. -/
def Obligations.CrcByteFoldsOneByteIntoCrcAcc : Prop :=
  (∀ b : Byte, encode (.crcByte b) = .command (BitVec.ofNat 32 (b.toNat * 256 + 2))) ∧
  (∀ (b : Byte) (s : State), Accepting s → exec (.crcByte b) s = .next { s with crcAcc := crcByte s.crcAcc b }) ∧
  crcByte 0x0000 0x00 = 0x0000

/-- R75: CRC_READ returns CRC_ACC and changes no register; its wire form is low byte first (R72). -/
def Obligations.CrcReadReturnsCrcAcc : Prop :=
  encode .crcRead = .command 0x00000003 ∧
  (∀ s : State, Accepting s →
    exec .crcRead s = .next { s with trace := s.trace ++ [.result (.value s.crcAcc)] }) ∧
  (∀ c : Half, (crcBytes c).toList = [BitVec.ofNat 8 (c.toNat % 256), BitVec.ofNat 8 (c.toNat / 256)])

/-- R76: CRC16 returns the checksum of BUF, of any length; CRC_ACC is not read or written. -/
def Obligations.Crc16ReturnsTheChecksumOfBuf : Prop :=
  encode .crc16 = .command 0x00000004 ∧
  (∀ s : State, Accepting s →
    exec .crc16 s = .next { s with trace := s.trace ++ [.result (.value (crc s.ports.buf))] }) ∧
  crc [] = 0xFFFF

/-- The table of R78, which the spec marks as derived from R71. -/
def Obligations.CrcIntermediateValuesOfTheRequest : Prop :=
  crc [0x01] = 0x807E ∧ crc [0x01, 0x04] = 0xE301 ∧ crc [0x01, 0x04, 0x00] = 0xC022 ∧
  crc [0x01, 0x04, 0x00, 0x00] = 0x1940 ∧ crc [0x01, 0x04, 0x00, 0x00, 0x00] = 0xF018 ∧
  crc [0x01, 0x04, 0x00, 0x00, 0x00, 0x01] = 0xCA31

/-- A frame followed by its own checksum, low byte first, has checksum 0 (the corner case of 95_test_vectors.md section
2.1, for every byte sequence). -/
def Obligations.CrcOfFrameWithItsOwnCrcIsZero : Prop :=
  ∀ s : List Byte, crc (s ++ (crcBytes (crc s)).toList) = 0x0000

/-- The streaming and one-shot forms agree (R77, which the spec marks as derived), as a run of the machine: CRC_INIT,
one CRC_BYTE per byte and CRC_READ return what CRC16 returns. -/
def Obligations.StreamingCrcAgreesWithOneShot : Prop :=
  ∀ (bs : List Byte) (s : State) (p : Ports) (rest : List Ports), Accepting s → s.phase = .top →
    s.host = p.withCmd .crcInit :: (bs.map fun b => p.withCmd (.crcByte b)) ++ p.withCmd .crcRead :: rest →
    (∃ t : State, runSteps (bs.length + 2) s = .next t ∧ t.host = rest ∧ t.crcAcc = crc bs ∧
      t.trace = s.trace ++ [.result (.value (crc bs))] ∧ t.meas = s.meas ∧ t.lastAdv = s.lastAdv ∧
      t.status = s.status ∧ t.phase = s.phase) ∧
    (∀ u : State, Accepting u → u.ports.buf = bs →
      exec .crc16 u = .next { u with trace := u.trace ++ [.result (.value (crc bs))] })

/-! ### DST -/

/-- R80: ADVANCE adds 1 modulo 2001 and takes the time when at least T1S ticks have passed, as integers; else nothing
changes. The premise on NOW is D3's (log 7). -/
def Obligations.AdvanceIncrementsOncePerElapsedSecond : Prop :=
  encode .advance = .command 0x00000005 ∧
  (∀ s : State, Accepting s → timeFits s.cfg s.ports.now = true →
    (s.cfg.t1s : Int) ≤ (s.ports.now : Int) - (s.lastAdv : Int) →
    exec .advance s =
      .next { s with meas := BitVec.ofNat 11 ((s.meas.toNat + 1) % 2001), lastAdv := s.ports.now }) ∧
  (∀ s : State, Accepting s → timeFits s.cfg s.ports.now = true →
    (s.ports.now : Int) - (s.lastAdv : Int) < (s.cfg.t1s : Int) →
    exec .advance s = .next s)

/-- The rate law of R82, which the spec marks as derived: one ADVANCE adds at most 1; after an increment at t1 no
ADVANCE before t1 + T1S changes anything; and with calls d ticks apart the increment comes at the smallest multiple of d
that is at least T1S. -/
def Obligations.AdvanceRateIsAtMostOnePerSecond : Prop :=
  (∀ (s : State) (now : Nat), s.meas.toNat ≤ 2000 →
    s.advance now = s ∨
    ((s.advance now).meas.toNat = (s.meas.toNat + 1) % 2001 ∧ (s.advance now).lastAdv = now)) ∧
  (∀ (s : State) (t1 : Nat) (ts : List Nat), (s.cfg.t1s : Int) ≤ s.elapsed t1 →
    (∀ t ∈ ts, t < t1 + s.cfg.t1s) → ts.foldl State.advance (s.advance t1) = s.advance t1) ∧
  (∀ (s : State) (d k : Nat), 0 < d → d < s.cfg.t1s → s.cfg.t1s ≤ k * d → (k - 1) * d < s.cfg.t1s →
    ((List.range k).map fun j => s.lastAdv + (j + 1) * d).foldl State.advance s =
      { s with meas := BitVec.ofNat 11 ((s.meas.toNat + 1) % 2001), lastAdv := s.lastAdv + k * d })

/-- Wraparound (R83, which the spec marks as derived), as a run of the machine: n incrementing ADVANCE commands add n
modulo 2001, so 2001 of them return MEAS to its value. -/
def Obligations.MeasurementWrapsAfter2001Advances : Prop :=
  ∀ (s : State) (p : Ports) (ts : List Nat) (rest : List Ports), Accepting s → s.phase = .top →
    spaced s.cfg.t1s s.lastAdv ts = true → (∀ t ∈ ts, timeFits s.cfg t = true) →
    s.host = (ts.map fun t => { p.withCmd .advance with now := t }) ++ rest →
    ∃ u : State, runSteps ts.length s = .next u ∧ u.host = rest ∧
      u.meas.toNat = (s.meas.toNat + ts.length) % 2001 ∧
      (ts.length = 2001 → u.meas = s.meas) ∧
      (ts.length = 2002 → u.meas.toNat = (s.meas.toNat + 1) % 2001)

/-- R81: CURRENT returns MEAS, zero-extended, and changes no register; the result is in 0..2000. -/
def Obligations.CurrentReturnsMeasWithoutMutation : Prop :=
  encode .current = .command 0x00000006 ∧
  ∀ s : State, Accepting s → ∃ v : Half,
    exec .current s = .next { s with trace := s.trace ++ [.result (.value v)] } ∧
    v.toNat = s.meas.toNat ∧ v.toNat ≤ 2000

/-! ### RQV -/

/-- R90 and R93: CLASSIFY returns 1 exactly for an 8-byte buffer that begins 01 04 00 00, else 0, and changes no
register. -/
def Obligations.ClassifyReturnsTheFrameClass : Prop :=
  encode .classify = .command 0x00000007 ∧
  ∀ s : State, Accepting s → ∃ c : BitVec 1,
    exec .classify s = .next { s with trace := s.trace ++ [.result (.verdict c)] } ∧
    (c = 1 ↔ s.ports.buf.length = 8 ∧ s.ports.buf[0]? = some 0x01 ∧ s.ports.buf[1]? = some 0x04 ∧
      s.ports.buf[2]? = some 0x00 ∧ s.ports.buf[3]? = some 0x00)

/-- R91 and R92: bytes 4 to 7 are not inspected, and a buffer of another length is Rejected whatever it holds. -/
def Obligations.ClassifyIgnoresQuantityAndChecksum : Prop :=
  (∀ a b c d e f g h e' f' g' h' : Byte,
    classify [a, b, c, d, e, f, g, h] = classify [a, b, c, d, e', f', g', h']) ∧
  (∀ e f g h : Byte, classify [0x01, 0x04, 0x00, 0x00, e, f, g, h] = .accepted) ∧
  (∀ buf : List Byte, buf.length ≠ 8 → classify buf = .rejected)

/-- Exactly 2^32 buffers are Accepted (R94, which the spec marks as derived): they are in bijection with 32-bit values. -/
def Obligations.ExactlyTwoToThe32BuffersAreAccepted : Prop :=
  ∃ f : BitVec 32 → { buf : List Byte // classify buf = .accepted }, Function.Bijective f

/-- The one decoded frame class (30_encoding.md section 2): the frame decoder, the classifier and the opcode table's
mask and match agree on every frame, and the decoder keeps every bit of it. -/
def Obligations.FrameDecoderAgreesWithClassifier : Prop :=
  (∀ buf : List Byte, classify buf = .accepted ↔ ∃ i : Instr, decode (.frame buf) = .ok i) ∧
  (∀ (buf : List Byte) (i : Instr), decode (.frame buf) = .ok i ↔
    ∃ (qty : Half) (lo hi : Byte), i = .rdIr0 qty lo hi ∧
      buf = [0x01, 0x04, 0x00, 0x00, hiByte qty, loByte qty, lo, hi]) ∧
  (∀ fw : BitVec 64, (decodeTableWord 64 fw.toNat).isSome = true ↔
    fw &&& 0xFFFFFFFF00000000 = 0x0104000000000000)

/-! ### RSB -/

/-- R100: BUILD v, v in 0..2000, returns header, value big-endian and checksum low byte first, and changes no register,
TXBUF and CRC_ACC included. -/
def Obligations.BuildReturnsTheResponseFrame : Prop :=
  (∀ v : Half, encode (.build v) = .command (BitVec.ofNat 32 (v.toNat * 65536 + 8))) ∧
  ∀ (v : Half) (s : State), Accepting s → v.toNat ≤ 2000 →
    let p : List Byte := [0x01, 0x04, 0x02, BitVec.ofNat 8 (v.toNat / 256), BitVec.ofNat 8 (v.toNat % 256)]
    exec (.build v) s =
      .next { s with trace := s.trace ++ [.result (.bytes (p ++ [loByte (crc p), hiByte (crc p)]))] }

/-- BUILD with v > 2000 is refused in every state (the spec's own choice, D19): the form that does not complete. -/
def Obligations.BuildAbove2000IsRefused : Prop :=
  (∀ (v : Half) (s : State), 2000 < v.toNat → ∃ r : Refusal, exec (.build v) s = .refused r) ∧
  (∀ (v : Half) (s : State), Accepting s → 2000 < v.toNat → exec (.build v) s = .refused .buildOutOfRange) ∧
  (∀ v : Half, (Instr.build v).wf = true ↔ v.toNat ≤ 2000)

/-- The shape of every response frame (R102, which the spec marks as derived). -/
def Obligations.ResponseFrameShape : Prop :=
  ∀ v : Half, v.toNat ≤ 2000 →
    (build v).toList.length = 7 ∧
    (build v).toList.take 3 = [0x01, 0x04, 0x02] ∧
    (build v)[3].toNat * 256 + (build v)[4].toNat = v.toNat ∧
    (build v)[5].toNat + 256 * (build v)[6].toNat = (crc ((build v).toList.take 5)).toNat

/-- Build is injective (R104, which the spec marks as derived): two measurements differ in byte 3 or byte 4. -/
def Obligations.BuildIsInjective : Prop :=
  ∀ v w : Half, v ≠ w → (build v)[3] ≠ (build w)[3] ∨ (build v)[4] ≠ (build w)[4]

/-! ### SEQ -/

/-- Running the phases of 44_loop.md section 1 from P_TOP is the one-transaction pseudocode of its section 2, in every
outcome. Some outcomes are the model's choice and no rule's: timeWrap for a NOW that does not fit (D3, log 7), the prefix
on the wire when the write fails (D16, log 8), stuckInWrite (D31, log 9), rxTooLong (log 15), the free bytes past RXLEN
(D30, log 5) and the events of the trace (log 14). -/
def Obligations.IterateIsTheCompositionOfThePhases : Prop :=
  encode .iterate = .command 0x00000009 ∧
  (∀ s : State, Accepting s → s.phase = .top → exec .iterate s = iterateAsR118 s) ∧
  (∀ s : State, s.status ≠ .run ∨ s.phase ≠ .top → ∃ r : Refusal, exec .iterate s = .refused r)

/-- STOP is taken at P_TOP and nothing else happens in that iteration, whatever stands on the other ports (44_loop.md
section 1; the STOP input is the spec's own choice, D14). -/
def Obligations.StopAtTopEndsTheRunCleanly : Prop :=
  ∀ s : State, Accepting s → s.phase = .top → s.ports.stop = true →
    exec .iterate s = .next { s with status := .stopped, phase := .halt }

/-- A failed read (60_exceptions.md section 2, D32): the iteration's ADVANCE has had its effect, STATUS is FAULT_RX,
PHASE is P_HALT, and no other register changes. -/
def Obligations.ReadFailureHaltsAfterTheAdvance : Prop :=
  ∀ s : State, Accepting s → s.phase = .top → s.ports.stop = false → timeFits s.cfg s.ports.now = true →
    s.ports.rx = .fail →
    exec .iterate s = .next { s with
      meas := (s.advance s.ports.now).meas, lastAdv := (s.advance s.ports.now).lastAdv
      status := .faultRx, phase := .halt
      trace := s.trace ++ [.chanRead 8 s.cfg.readTimeout] }

/-- A short read is dropped (20_memory.md section 4, 44_loop.md section 1): no write, no MON, STATUS unchanged; RXLEN is
the count, RXBUF begins with the bytes, and its other bytes are not constrained (log 5). -/
def Obligations.ShortReadIsDropped : Prop :=
  ∀ (s : State) (b : List Byte), Accepting s → s.phase = .top → s.ports.stop = false →
    timeFits s.cfg s.ports.now = true → s.ports.rx = .bytes b → b.length < 8 →
    ∃ (rb : Vector Byte 8) (d : Nat),
      rb.toList.take b.length = b ∧
      exec .iterate s = .next { s with
        meas := (s.advance s.ports.now).meas, lastAdv := (s.advance s.ports.now).lastAdv
        rxlen := BitVec.ofNat 4 b.length, rxbuf := rb, draws := d
        trace := s.trace ++ [.chanRead 8 s.cfg.readTimeout, .pause s.cfg.yieldTime] }

/-- R114 with R56: a Rejected 8-byte frame is silently dropped; no response, no error, and no register but those of
ADVANCE and the read changes. -/
def Obligations.RejectedFrameIsSilentlyDropped : Prop :=
  ∀ (s : State) (b : List Byte), Accepting s → s.phase = .top → s.ports.stop = false →
    timeFits s.cfg s.ports.now = true → s.ports.rx = .bytes b → b.length = 8 → classify b = .rejected →
    ∃ (rb : Vector Byte 8) (d : Nat),
      rb.toList = b ∧
      exec .iterate s = .next { s with
        meas := (s.advance s.ports.now).meas, lastAdv := (s.advance s.ports.now).lastAdv
        rxlen := 8, rxbuf := rb, draws := d
        trace := s.trace ++ [.chanRead 8 s.cfg.readTimeout, .pause s.cfg.yieldTime] }

/-- An Accepted frame is answered with MEAS as the iteration's ADVANCE left it (44_loop.md sections 1 and 2). When the
write answers Ok, all 7 bytes reach the master, MON fires and the iteration ends at P_TOP; when it answers Fail, STATUS is
FAULT_TX, PHASE is P_HALT, every other register is kept (the spec's own choice, D32), there is no MON (D15), and some
prefix of TXBUF reached the master: that it is a prefix, and that the model leaves open which, is D16 and the model's
choice, log 8; the events are log 14's. -/
def Obligations.AcceptedRequestIsAnswered : Prop :=
  ∀ (s : State) (b : List Byte), Accepting s → s.phase = .top → s.ports.stop = false →
    timeFits s.cfg s.ports.now = true → s.ports.rx = .bytes b → b.length = 8 → classify b = .accepted →
    let f : Vector Byte 7 := build (BitVec.ofNat 16 (s.advance s.ports.now).meas.toNat)
    (s.ports.tx = some .ok → ∃ (rb : Vector Byte 8) (d : Nat), rb.toList = b ∧
      exec .iterate s = .next { s with
        meas := (s.advance s.ports.now).meas, lastAdv := (s.advance s.ports.now).lastAdv
        rxlen := 8, rxbuf := rb, draws := d, txbuf := f
        trace := s.trace ++ [.chanRead 8 s.cfg.readTimeout, .chanWrite f.toList, .mon b f.toList,
          .pause s.cfg.yieldTime]
        wire := s.wire ++ f.toList }) ∧
    (s.ports.tx = some .fail → ∃ (rb : Vector Byte 8) (d n : Nat), rb.toList = b ∧
      exec .iterate s = .next { s with
        meas := (s.advance s.ports.now).meas, lastAdv := (s.advance s.ports.now).lastAdv
        rxlen := 8, rxbuf := rb, draws := d, txbuf := f
        trace := s.trace ++ [.chanRead 8 s.cfg.readTimeout, .chanWrite f.toList]
        wire := s.wire ++ f.toList.take n
        status := .faultTx, phase := .halt })

/-- The end-to-end case of R124, which the spec marks as derived. -/
def Obligations.EndToEndRequestWithMeasurementFive : Prop :=
  ∀ s : State, Accepting s → s.phase = .top → s.ports.stop = false → timeFits s.cfg s.ports.now = true →
    s.ports.rx = .bytes [0x01, 0x04, 0x00, 0x00, 0x00, 0x01, 0x31, 0xCA] → s.ports.tx = some .ok →
    (s.advance s.ports.now).meas = 5 →
    ∃ t : State, exec .iterate s = .next t ∧ t.phase = .top ∧ t.status = .run ∧ t.meas = 5 ∧
      t.trace = s.trace ++ [.chanRead 8 s.cfg.readTimeout,
        .chanWrite [0x01, 0x04, 0x02, 0x00, 0x05, 0x79, 0x33],
        .mon [0x01, 0x04, 0x00, 0x00, 0x00, 0x01, 0x31, 0xCA] [0x01, 0x04, 0x02, 0x00, 0x05, 0x79, 0x33],
        .pause s.cfg.yieldTime] ∧
      t.wire = s.wire ++ [0x01, 0x04, 0x02, 0x00, 0x05, 0x79, 0x33]

/-- RD_IR0 decoded in P_CLASSIFY is answered (30_encoding.md section 2), at every quantity and checksum: P_BUILD, P_WRITE
and P_YIELD, and nothing but TXBUF, PHASE, STATUS and the outputs changes. When the write fails, some prefix of the frame
reached the master: that it is a prefix, and which, is D16 and the model's choice, log 8; that every other register is
kept is D32. A write that never returns is stuck (D31, log 9). That an instruction of this class is run from P_CLASSIFY,
and refused from every other phase as no frame is decoded there, is the model's choice (log 12). -/
def Obligations.ReadInputRegisterFrameIsAnswered : Prop :=
  (∀ (qty : Half) (lo hi : Byte) (s : State), Accepting s → s.phase ≠ .classify →
    exec (.rdIr0 qty lo hi) s = .refused .notClassifying) ∧
  ∀ (qty : Half) (lo hi : Byte) (s : State), Accepting s → s.phase = .classify →
    let f : Vector Byte 7 := build (BitVec.ofNat 16 s.meas.toNat)
    (s.ports.tx = some .ok →
      exec (.rdIr0 qty lo hi) s = .next { s with
        txbuf := f, phase := .top
        trace := s.trace ++ [.chanWrite f.toList, .mon s.rxbuf.toList f.toList, .pause s.cfg.yieldTime]
        wire := s.wire ++ f.toList }) ∧
    (s.ports.tx = some .fail → ∃ d n : Nat,
      exec (.rdIr0 qty lo hi) s = .next { s with
        txbuf := f, phase := .halt, status := .faultTx, draws := d
        trace := s.trace ++ [.chanWrite f.toList]
        wire := s.wire ++ f.toList.take n }) ∧
    (s.ports.tx = none → exec (.rdIr0 qty lo hi) s = .fault .stuckInWrite)

/-- A write that never returns leaves MBCORE stuck (20_memory.md section 4; the spec's own choice, D31): the accepted
iteration has no next state. -/
def Obligations.WriteThatNeverReturnsIsStuck : Prop :=
  ∀ (s : State) (b : List Byte), Accepting s → s.phase = .top → s.ports.stop = false →
    timeFits s.cfg s.ports.now = true → s.ports.rx = .bytes b → answers b = true → s.ports.tx = none →
    exec .iterate s = .fault .stuckInWrite

/-- R110: from each phase the sequencer goes along an arrow of the diagram and no other, and each early exit is taken
exactly on its condition. -/
def Obligations.PhasesFollowTheDiagram : Prop :=
  ∀ s t : State, phaseStep s = .next t → s.phase ≠ .halt →
    phaseArrow s.phase t.phase = true ∧
    (s.phase = .top → (t.phase = .halt ↔ s.ports.stop = true)) ∧
    (s.phase = .read → (t.phase = .yield ↔ ∃ b, s.ports.rx = .bytes b ∧ b.length < 8) ∧
      (t.phase = .halt ↔ s.ports.rx = .fail)) ∧
    (s.phase = .classify → (t.phase = .yield ↔ classify s.rxbuf.toList = .rejected)) ∧
    (s.phase = .write → (t.phase = .halt ↔ s.ports.tx = some .fail))

/-- R117: P_YIELD changes no register but PHASE, which becomes P_TOP; its length only stands in the trace (log 14). -/
def Obligations.YieldChangesNoRegister : Prop :=
  ∀ s : State, s.phase = .yield →
    phaseStep s = .next { s with phase := .top, trace := s.trace ++ [.pause s.cfg.yieldTime] }

/-- One iteration performs one ADVANCE unless it stops at P_TOP, and at most one ChanRead, one ChanWrite and one MON
(R123, which the spec marks as derived). -/
def Obligations.IterationDoesEachThingAtMostOnce : Prop :=
  ∀ s t : State, exec .iterate s = .next t →
    (∃ es : List Event, t.trace = s.trace ++ es ∧ countReads es ≤ 1 ∧ countWrites es ≤ 1 ∧ countMons es ≤ 1) ∧
    (s.ports.stop = true → t.meas = s.meas ∧ t.lastAdv = s.lastAdv) ∧
    (s.ports.stop = false →
      t.meas = (s.advance s.ports.now).meas ∧ t.lastAdv = (s.advance s.ports.now).lastAdv)

/-- MON fires in exactly the iterations that answer a request and whose write answers Ok, with the bytes read and the bytes
written; and where it fires, it fires once and right after its ChanWrite (44_loop.md section 3; the event is the spec's own
choice, D15, and its place in the trace is log 14's). -/
def Obligations.MonFiresExactlyAfterASuccessfulWrite : Prop :=
  ∀ (s t : State) (es : List Event), exec .iterate s = .next t → t.trace = s.trace ++ es →
    ∀ req rsp : List Byte,
      (Event.mon req rsp ∈ es ↔
        s.ports.stop = false ∧ s.ports.tx = some .ok ∧ s.ports.rx = .bytes req ∧ answers req = true ∧
          rsp = t.txbuf.toList) ∧
      (Event.mon req rsp ∈ es →
        countMons es = 1 ∧ ∃ before after, es = before ++ [.chanWrite rsp, .mon req rsp] ++ after)

/-- How a run of the loop goes on or ends (44_loop.md section 3). The host presents one ITERATE after another, for ever,
with any inputs the spec gives a meaning to. Either the run is infinite: no step of it stops, STATUS stays RUN, and each
iteration makes its ChanRead; or some iteration ends it, cleanly by STOP or fatally by a failed channel call, and in no
other way. And where no iteration is stopped and no channel call fails, it is infinite. That the host's inputs come as an
endless sequence beside the machine is the model's choice (log 1). -/
def Obligations.RunIsInfiniteOrEndsByStopOrFatal : Prop :=
  ∀ (s : State) (ins : Nat → Ports), Accepting s → s.phase = .top → s.host = [] → (∀ n, LoopInput s.cfg (ins n)) →
    let iterate : Nat → Ports := fun n => (ins n).withCmd .iterate
    let infinite : Prop := ∃ r : Nat → State, r 0 = s ∧ EndlessRun iterate r ∧
      ∀ n, Accepting (r n) ∧ (r n).phase = .top ∧ (r n).trace <+: (r (n + 1)).trace ∧
        countReads (r n).trace = countReads s.trace + n
    (infinite ∨ ∃ (n : Nat) (t : State), runOn ((List.range (n + 1)).map iterate) s = .next t ∧
      ((CleanEnd t ∧ (ins n).stop = true) ∨
        (FatalEnd t ∧ (ins n).stop = false ∧ ((ins n).rx = .fail ∨ (ins n).tx = some .fail)))) ∧
    ((∀ n, (ins n).stop = false ∧ (ins n).rx ≠ .fail ∧ (ins n).tx = some .ok) → infinite)

/-! ### RESET, halting, refusal -/

/-- RESET is accepted in every legal state, P_HALT and the state before the first RESET included, and gives every
register its reset value (10_state.md section 5, 70_reset_and_hazards.md section 1; the values are the spec's own choice,
D4 to D7, D12, D13); RXBUF and TXBUF are not constrained (log 4). After it the machine accepts commands. -/
def Obligations.ResetGivesEveryRegisterItsValue : Prop :=
  encode .reset = .command 0x00000000 ∧
  ∀ s : State, (s.resetSeen = true → s.meas.toNat ≤ 2000) → timeFits s.cfg s.ports.now = true →
    ∃ (rb : Vector Byte 8) (tb : Vector Byte 7) (d : Nat) (t : State),
      exec .reset s = .next t ∧ Accepting t ∧
      t = { s with
        meas := 0, lastAdv := s.ports.now, crcAcc := 0xFFFF, rxlen := 0, status := .run, phase := .top
        rxbuf := rb, txbuf := tb, draws := d, resetSeen := true }

/-- State.reset is the machine after a first RESET with NOW = 0, but for the buffers the spec leaves open and the count of
free values (logs 3, 4, 11). -/
def Obligations.ResetStateIsWhatResetLeaves : Prop :=
  State.reset.meas = 0 ∧ State.reset.lastAdv = State.reset.ports.now ∧ State.reset.crcAcc = 0xFFFF ∧
  State.reset.rxlen = 0 ∧ State.reset.phase = .top ∧ State.reset.status = .run ∧
  ∃ (rb : Vector Byte 8) (tb : Vector Byte 7) (d : Nat),
    exec .reset State.powerOn = .next { State.reset with rxbuf := rb, txbuf := tb, draws := d }

/-- In P_HALT, and whenever STATUS is not RUN, every instruction but RESET is refused (60_exceptions.md section 2; the
spec's own choice, D10, D14, D32). -/
def Obligations.HaltedMachineRefusesAllButReset : Prop :=
  ∀ (i : Instr) (s : State), i ≠ .reset → s.phase = .halt ∨ s.status ≠ .run →
    ∃ r : Refusal, exec i s = .refused r

/-- From P_HALT a step either changes nothing or performs a RESET (60_exceptions.md section 2, 70_reset_and_hazards.md
section 1). That an idle step changes nothing is log 2. -/
def Obligations.OnlyResetLeavesHalt : Prop :=
  ∀ s t : State, s.phase = .halt → step s = .next t →
    t = s ∨ ∃ (p : Ports) (rest : List Ports), s.host = p :: rest ∧ decode (.command p.cmd) = .ok .reset ∧
      exec .reset (s.latch p rest) = .next t

/-- Before the first RESET, whatever the registers hold, PHASE included, every other instruction is refused, and a step
that is presented another command refuses it; a step that is presented a RESET, at a time that fits (log 7), performs it,
and the run starts at P_TOP (70_reset_and_hazards.md section 1; the spec's own choice, D13). -/
def Obligations.OnlyResetStartsARun : Prop :=
  (∀ (i : Instr) (s : State), s.resetSeen = false → i ≠ .reset → exec i s = .refused .beforeReset) ∧
  (∀ (s : State) (p : Ports) (rest : List Ports) (i : Instr), s.resetSeen = false → s.host = p :: rest →
    decode (.command p.cmd) = .ok i →
    (i ≠ .reset → step s = .refused .beforeReset) ∧
    (i = .reset → timeFits s.cfg p.now = true → ∃ t : State, step s = .next t ∧ Accepting t ∧ Inv t ∧
      t.phase = .top ∧ t.meas = 0 ∧ t.lastAdv = p.now ∧ t.host = rest))

/-- A state with MEAS in 2001..2047 has no step (10_state.md section 1, derived there; log 10 for RESET). -/
def Obligations.IllFormedMeasHasNoStep : Prop :=
  ∀ s : State, s.resetSeen = true → 2000 < s.meas.toNat →
    step s = .refused .illFormedMeas ∧ ∀ i : Instr, exec i s = .refused .illFormedMeas

/-- A NOW that a TIME_W-bit counter cannot hold is refused by everything that samples it (92_eei_decisions.md D3, log 7),
RESET in P_HALT and before the first RESET included, and an unbounded counter holds every time. -/
def Obligations.WrappingTimeIsRefused : Prop :=
  (∀ s : State, (s.resetSeen = true → s.meas.toNat ≤ 2000) → timeFits s.cfg s.ports.now = false →
    exec .reset s = .refused .timeWrap) ∧
  (∀ s : State, Accepting s → timeFits s.cfg s.ports.now = false →
    exec .advance s = .refused .timeWrap ∧
    (s.phase = .top → s.ports.stop = false → exec .iterate s = .refused .timeWrap)) ∧
  (∀ (c : Config) (now : Nat), c.timeW = none → timeFits c now = true) ∧
  (∀ (c : Config) (now w : Nat), c.timeW = some w → (timeFits c now = true ↔ now < 2 ^ w))

/-! ### Encoding and the step -/

/-- The reserved command words (30_encoding.md section 4; the spec's own choice, D10): exactly these decode to nothing,
and the step that meets one is refused. -/
def Obligations.ReservedCommandWordsAreRefused : Prop :=
  (∀ w : CmdWord, (∃ r : Reject, decode (.command w) = .error r) ↔
    (10 ≤ w.toNat % 16 ∨ w.toNat / 16 % 16 ≠ 0 ∨ (w.toNat % 16 ≠ 2 ∧ w.toNat / 256 % 256 ≠ 0) ∨
      (w.toNat % 16 ≠ 8 ∧ w.toNat / 65536 ≠ 0))) ∧
  (∀ (s : State) (p : Ports) (rest : List Ports) (r : Reject), Inv s → s.host = p :: rest →
    decode (.command p.cmd) = .error r → step s = .refused (.reservedCommand r))

/-- The command decoder agrees with the masks and matches of spec/opcode_table.json: a word decodes exactly when some row
holds it, the row is its instruction's, and no word belongs to two rows. -/
def Obligations.DecoderAgreesWithTheOpcodeTable : Prop :=
  (∀ w : CmdWord, (∃ i : Instr, decode (.command w) = .ok i) ↔ ∃ r ∈ commandTable, r.holds w = true) ∧
  (∀ (w : CmdWord) (i : Instr), decode (.command w) = .ok i →
    ∃ r : TableRow, i.row = some r ∧ r.holds w = true) ∧
  commandTable.Pairwise fun r r' => ∀ w : CmdWord, ¬ (r.holds w = true ∧ r'.holds w = true)

/-- Decoding what the encoder writes gives the instruction back, for every instruction and every operand value. -/
def Obligations.DecodeOfEncodeIsTheInstruction : Prop :=
  ∀ i : Instr, decode (encode i) = .ok i

/-- Every word and every frame that decodes is the encoding of what it decodes to: each has one meaning and no bit of it
is dropped. -/
def Obligations.EncodeOfDecodeIsTheWord : Prop :=
  ∀ (c : Code) (i : Instr), decode c = .ok i → encode i = c

/-- Words written out from the spec (30_encoding.md section 5, 95_test_vectors.md sections 2.4 and 2.6) decode to what
they stand for. -/
def Obligations.SampleWordsDecodeAsTheSpecSays : Prop :=
  decodeTableWord 32 0x00000000 = some .reset ∧ decodeTableWord 32 0x00000001 = some .crcInit ∧
  decodeTableWord 32 0x00000402 = some (.crcByte 0x04) ∧ decodeTableWord 32 0x00000003 = some .crcRead ∧
  decodeTableWord 32 0x00000004 = some .crc16 ∧ decodeTableWord 32 0x00000005 = some .advance ∧
  decodeTableWord 32 0x00000006 = some .current ∧ decodeTableWord 32 0x00000007 = some .classify ∧
  decodeTableWord 32 0x00050008 = some (.build 5) ∧ decodeTableWord 32 0x00000009 = some .iterate ∧
  decodeTableWord 64 0x01040000000131CA = some (.rdIr0 0x0001 0x31 0xCA)

/-- Between transactions, and before the first RESET, a step performs the command the host presents: it is exec of the decoded command under the
transaction's port values, with the transaction taken off the list. With none presented nothing changes (log 2). -/
def Obligations.StepPerformsTheDecodedCommand : Prop :=
  (∀ (s : State) (p : Ports) (rest : List Ports) (i : Instr), Inv s → s.host = p :: rest →
    decode (.command p.cmd) = .ok i → step s = exec i { s with ports := p, host := rest }) ∧
  (∀ s : State, Inv s → s.host = [] → step s = .next s)

/-- In P_CLASSIFY a step runs the frame that RXBUF decodes to, and ITERATE that reads a whole frame passes through that
very state: the iteration's outcome is the frame instruction's (log 12). -/
def Obligations.StepRunsTheDecodedFrame : Prop :=
  (∀ (s : State) (i : Instr), Accepting s → s.phase = .classify → decode (.frame s.rxbuf.toList) = .ok i →
    step s = exec i s) ∧
  (∀ (s : State) (b : List Byte) (i : Instr), Accepting s → s.phase = .top → s.ports.stop = false →
    timeFits s.cfg s.ports.now = true → s.ports.rx = .bytes b → decode (.frame b) = .ok i →
    exec .iterate s =
      exec i ((((s.advance s.ports.now).emit (.chanRead 8 s.cfg.readTimeout)).loadRx b).goto .classify))

/-! ### Whole-machine rules -/

/-- Every step keeps the invariant: once the first RESET has been performed, MEAS in 0..2000, RXLEN in 0..8, PHASE at P_TOP
or P_HALT, P_HALT exactly with a STATUS other than RUN. Before it the invariant says nothing (70_reset_and_hazards.md
section 1, log 11), and the one step that leaves such a state, RESET, brings it about. -/
def Obligations.EveryStepKeepsTheInvariant : Prop :=
  ∀ s t : State, Inv s → step s = .next t → Inv t

/-- The invariant holds in State.reset (its values: 10_state.md section 5, D4 to D7, D12, D13; its time and buffers are
log 3's, and the invariant reads neither), and in every state before the first RESET, where the registers are unspecified
(70_reset_and_hazards.md section 1, D13) and the invariant reads none of them: the placeholders of State.powerOn (log 11)
play no part. -/
def Obligations.ResetMeetsTheInvariant : Prop :=
  Inv State.reset ∧ ∀ s : State, s.resetSeen = false → Inv s

/-- Only RESET, ADVANCE and ITERATE ever change MEAS or LAST_ADV, and MEAS stays in 0..2000 (10_state.md section 1,
41_device_state.md section 2, D28, D33). -/
def Obligations.OnlyAdvanceIterateAndResetWriteTheMeasurement : Prop :=
  ∀ (i : Instr) (s t : State), exec i s = .next t →
    (t.meas ≠ s.meas ∨ t.lastAdv ≠ s.lastAdv → i = .reset ∨ i = .advance ∨ i = .iterate) ∧ t.meas.toNat ≤ 2000

/-- Only RESET, CRC_INIT and CRC_BYTE ever change CRC_ACC: BUILD, ITERATE and CRC16 do not (10_state.md section 1, D25). -/
def Obligations.OnlyStreamingCommandsWriteCrcAcc : Prop :=
  ∀ (i : Instr) (s t : State), exec i s = .next t → t.crcAcc ≠ s.crcAcc →
    i = .reset ∨ i = .crcInit ∨ ∃ b : Byte, i = .crcByte b

/-- Only RESET and an iteration's read change RXBUF and RXLEN; only RESET and an accepted request change TXBUF
(10_state.md section 1). -/
def Obligations.OnlyAnIterationWritesTheBuffers : Prop :=
  ∀ (i : Instr) (s t : State), exec i s = .next t →
    (t.rxbuf ≠ s.rxbuf ∨ t.rxlen ≠ s.rxlen →
      i = .reset ∨ (i = .iterate ∧ ∃ b, s.ports.rx = .bytes b ∧ s.ports.stop = false)) ∧
    (t.txbuf ≠ s.txbuf →
      i = .reset ∨ (i = .iterate ∧ ∃ b, s.ports.rx = .bytes b ∧ answers b = true) ∨
      ∃ (q : Half) (lo hi : Byte), i = .rdIr0 q lo hi)

/-- STATUS changes only by RESET, by the stop path and by a fatal entry, each with its own code, and a stop or a fatal
entry leaves PHASE at P_HALT (10_state.md section 1, 60_exceptions.md sections 1 to 3). -/
def Obligations.StatusChangesOnlyByResetStopOrFatal : Prop :=
  ∀ (i : Instr) (s t : State), exec i s = .next t → t.status ≠ s.status →
    (i = .reset ∧ t.status = .run) ∨
    (i = .iterate ∧ s.ports.stop = true ∧ CleanEnd t) ∨
    (i = .iterate ∧ s.ports.stop = false ∧ s.ports.rx = .fail ∧ t.status = .faultRx ∧ t.phase = .halt) ∨
    ((i = .iterate ∨ ∃ (q : Half) (lo hi : Byte), i = .rdIr0 q lo hi) ∧
      s.ports.tx = some .fail ∧ t.status = .faultTx ∧ t.phase = .halt)

/-- The parameters never change, the first RESET is never forgotten, and the outputs only grow (00_scope.md section 4,
10_state.md section 3; the trace and the wire are the model's, logs 8 and 14). -/
def Obligations.ParametersStayAndOutputsOnlyGrow : Prop :=
  ∀ s t : State, step s = .next t →
    t.cfg = s.cfg ∧ (s.resetSeen = true → t.resetSeen = true) ∧
    (∃ es : List Event, t.trace = s.trace ++ es) ∧ (∃ bs : List Byte, t.wire = s.wire ++ bs)

/-- LAST_ADV can be seen only through when MEAS next increments (10_state.md section 4): two states that differ only in
LAST_ADV, and agree on whether an ADVANCE now would increment, are told apart by no instruction. -/
def Obligations.LastAdvIsHidden : Prop :=
  ∀ (i : Instr) (s : State) (t : Nat),
    ((s.cfg.t1s : Int) ≤ (s.ports.now : Int) - (s.lastAdv : Int) ↔
      (s.cfg.t1s : Int) ≤ (s.ports.now : Int) - (t : Int)) →
    mapOut forgetLastAdv (exec i { s with lastAdv := t }) = mapOut forgetLastAdv (exec i s)

/-- An iteration does not depend on what earlier iterations left in RXBUF, RXLEN or TXBUF, nor on CRC_ACC (44_loop.md
section 3, 20_memory.md section 4, D25). -/
def Obligations.IterationForgetsEarlierFrames : Prop :=
  ∀ (s : State) (rb : Vector Byte 8) (rl : BitVec 4) (tb : Vector Byte 7) (a : Half),
    mapOut forgetBuffers (exec .iterate { s with rxbuf := rb, rxlen := rl, txbuf := tb, crcAcc := a }) =
      mapOut forgetBuffers (exec .iterate s)

/-- R31: a request that addresses register 0x0000 is answered with exactly one register whatever its quantity (and
checksum): the answer is 7 bytes with byte count 2 and the value of MEAS, which the request does not write; and two such
requests get the same answer and leave the same state, but for the request itself. -/
def Obligations.EveryQuantityIsAnsweredWithOneRegister : Prop :=
  (∀ (s : State) (b : List Byte), Accepting s → s.phase = .top → s.ports.stop = false →
    timeFits s.cfg s.ports.now = true → s.ports.rx = .bytes b → answers b = true → s.ports.tx = some .ok →
    ∃ (t : State) (hi lo cl ch : Byte), exec .iterate s = .next t ∧
      t.wire = s.wire ++ [0x01, 0x04, 0x02, hi, lo, cl, ch] ∧ hi.toNat * 256 + lo.toNat = t.meas.toNat ∧
      t.meas = (s.advance s.ports.now).meas) ∧
  (∀ (s : State) (b b' : List Byte), answers b = true → answers b' = true →
    mapOut forgetRequest (exec .iterate { s with ports := { s.ports with rx := .bytes b } }) =
      mapOut forgetRequest (exec .iterate { s with ports := { s.ports with rx := .bytes b' } }))

/-- The Modbus input-register space (20_memory.md section 1): a request to this slave and function is Accepted exactly
when it addresses an implemented register, and the one implemented register reads MEAS. -/
def Obligations.OnlyRegisterZeroIsImplemented : Prop :=
  ∀ (s : State) (f : Vector Byte 8), f[0] = 0x01 → f[1] = 0x04 →
    (classify f.toList = .accepted ↔ (s.inputRegister (frameStart f)).isSome = true) ∧
    (∀ (a v : Half), s.inputRegister a = some v → a = 0x0000 ∧ v.toNat = s.meas.toNat)

/-- The codes of STATUS and PHASE (60_exceptions.md section 1, 10_state.md section 1; the numbers are the spec's own, D1,
D12): every code is used and names one value. -/
def Obligations.StatusAndPhaseCodes : Prop :=
  Status.run.code = 0 ∧ Status.stopped.code = 1 ∧ Status.faultRx.code = 2 ∧ Status.faultTx.code = 3 ∧
  Phase.top.code = 0 ∧ Phase.adv.code = 1 ∧ Phase.read.code = 2 ∧ Phase.classify.code = 3 ∧
  Phase.build.code = 4 ∧ Phase.write.code = 5 ∧ Phase.yield.code = 6 ∧ Phase.halt.code = 7 ∧
  (∀ c : BitVec 2, (Status.ofCode c).code = c) ∧ (∀ x : Status, Status.ofCode x.code = x) ∧
  (∀ c : BitVec 3, (Phase.ofCode c).code = c) ∧ (∀ x : Phase, Phase.ofCode x.code = x)
end

