-- ==== Sys2Proof/Laws/Decode.lean ====
section
/-! SUPPORT. The fields of a command word that the encoder writes, and the bytes of a frame. -/

namespace Sys2Proof

@[simp] theorem hiByte_append (a b : Byte) : hiByte (a ++ b) = a := by
  ext i hi
  simp only [hiByte, BitVec.getElem_extractLsb', BitVec.getLsbD_append]
  have h : ¬ 8 + i < 8 := by omega
  simp [h, BitVec.getLsbD_eq_getElem hi]

@[simp] theorem loByte_append (a b : Byte) : loByte (a ++ b) = b := by
  ext i hi
  simp only [loByte, BitVec.getElem_extractLsb', BitVec.getLsbD_append]
  simp [hi]

@[simp] theorem hiByte_append_loByte (v : Half) : hiByte v ++ loByte v = v := by
  ext i hi
  rw [BitVec.getElem_append]
  split
  · simp only [loByte, BitVec.getElem_extractLsb', Nat.zero_add, BitVec.getLsbD_eq_getElem hi]
  · simp only [hiByte, BitVec.getElem_extractLsb']
    rw [show 8 + (i - 8) = i by omega, BitVec.getLsbD_eq_getElem hi]

theorem commandWord_toNat (v : Half) (b : Byte) (op : BitVec 4) :
    (commandWord v b op).toNat = v.toNat * 65536 + b.toNat * 256 + op.toNat := by
  have hb := b.isLt
  have ho := op.isLt
  simp only [commandWord, BitVec.toNat_append, BitVec.toNat_ofNat]
  rw [← Nat.shiftLeft_add_eq_or_of_lt (by omega), ← Nat.shiftLeft_add_eq_or_of_lt (by norm_num),
    ← Nat.shiftLeft_add_eq_or_of_lt (by omega)]
  simp only [Nat.shiftLeft_eq]
  omega

theorem cmdOp_toNat (w : CmdWord) : (cmdOp w).toNat = w.toNat % 16 := by
  simp [cmdOp, BitVec.extractLsb'_toNat]

theorem cmdRsv_toNat (w : CmdWord) : (cmdRsv w).toNat = w.toNat / 16 % 16 := by
  simp [cmdRsv, BitVec.extractLsb'_toNat, Nat.shiftRight_eq_div_pow]

theorem cmdB_toNat (w : CmdWord) : (cmdB w).toNat = w.toNat / 256 % 256 := by
  simp [cmdB, BitVec.extractLsb'_toNat, Nat.shiftRight_eq_div_pow]

theorem cmdV_toNat (w : CmdWord) : (cmdV w).toNat = w.toNat / 65536 := by
  have := w.isLt
  simp only [cmdV, BitVec.extractLsb'_toNat, Nat.shiftRight_eq_div_pow]
  omega

@[simp] theorem cmdOp_commandWord (v : Half) (b : Byte) (op : BitVec 4) : cmdOp (commandWord v b op) = op := by
  apply BitVec.eq_of_toNat_eq
  have := op.isLt
  rw [cmdOp_toNat, commandWord_toNat]
  omega

@[simp] theorem cmdRsv_commandWord (v : Half) (b : Byte) (op : BitVec 4) : cmdRsv (commandWord v b op) = 0 := by
  apply BitVec.eq_of_toNat_eq
  have := op.isLt
  rw [cmdRsv_toNat, commandWord_toNat]
  simp only [BitVec.ofNat_eq_ofNat, BitVec.toNat_ofNat]
  omega

@[simp] theorem cmdB_commandWord (v : Half) (b : Byte) (op : BitVec 4) : cmdB (commandWord v b op) = b := by
  apply BitVec.eq_of_toNat_eq
  have := op.isLt
  have := b.isLt
  rw [cmdB_toNat, commandWord_toNat]
  omega

@[simp] theorem cmdV_commandWord (v : Half) (b : Byte) (op : BitVec 4) : cmdV (commandWord v b op) = v := by
  apply BitVec.eq_of_toNat_eq
  have := op.isLt
  have := b.isLt
  rw [cmdV_toNat, commandWord_toNat]
  omega

/-- A command word is its fields, when RSV is 0 (R57). -/
theorem commandWord_fields {w : CmdWord} (h : cmdRsv w = 0) : commandWord (cmdV w) (cmdB w) (cmdOp w) = w := by
  apply BitVec.eq_of_toNat_eq
  have hr : (cmdRsv w).toNat = 0 := by rw [h]; rfl
  rw [cmdRsv_toNat] at hr
  rw [commandWord_toNat, cmdV_toNat, cmdB_toNat, cmdOp_toNat]
  omega

end Sys2Proof
end

