-- ==== Sys2Proof/Laws/State.lean ====
section
/-! SUPPORT. What each update of State leaves in each field, one lemma a field, so that no proof unfolds a record
update. -/

namespace Sys2Proof.Machine

/-! ### An event at the boundary: `emit` -/

@[simp] theorem State.emit_meas (s : State) (e : Event) : (s.emit e).meas = s.meas := rfl
@[simp] theorem State.emit_lastAdv (s : State) (e : Event) : (s.emit e).lastAdv = s.lastAdv := rfl
@[simp] theorem State.emit_crcAcc (s : State) (e : Event) : (s.emit e).crcAcc = s.crcAcc := rfl
@[simp] theorem State.emit_rxbuf (s : State) (e : Event) : (s.emit e).rxbuf = s.rxbuf := rfl
@[simp] theorem State.emit_rxlen (s : State) (e : Event) : (s.emit e).rxlen = s.rxlen := rfl
@[simp] theorem State.emit_txbuf (s : State) (e : Event) : (s.emit e).txbuf = s.txbuf := rfl
@[simp] theorem State.emit_phase (s : State) (e : Event) : (s.emit e).phase = s.phase := rfl
@[simp] theorem State.emit_status (s : State) (e : Event) : (s.emit e).status = s.status := rfl
@[simp] theorem State.emit_ports (s : State) (e : Event) : (s.emit e).ports = s.ports := rfl
@[simp] theorem State.emit_cfg (s : State) (e : Event) : (s.emit e).cfg = s.cfg := rfl
@[simp] theorem State.emit_resetSeen (s : State) (e : Event) : (s.emit e).resetSeen = s.resetSeen := rfl
@[simp] theorem State.emit_host (s : State) (e : Event) : (s.emit e).host = s.host := rfl
@[simp] theorem State.emit_trace (s : State) (e : Event) : (s.emit e).trace = s.trace ++ [e] := rfl
@[simp] theorem State.emit_wire (s : State) (e : Event) : (s.emit e).wire = s.wire := rfl
@[simp] theorem State.emit_draws (s : State) (e : Event) : (s.emit e).draws = s.draws := rfl

/-! ### PHASE: `goto` -/

@[simp] theorem State.goto_meas (s : State) (p : Phase) : (s.goto p).meas = s.meas := rfl
@[simp] theorem State.goto_lastAdv (s : State) (p : Phase) : (s.goto p).lastAdv = s.lastAdv := rfl
@[simp] theorem State.goto_crcAcc (s : State) (p : Phase) : (s.goto p).crcAcc = s.crcAcc := rfl
@[simp] theorem State.goto_rxbuf (s : State) (p : Phase) : (s.goto p).rxbuf = s.rxbuf := rfl
@[simp] theorem State.goto_rxlen (s : State) (p : Phase) : (s.goto p).rxlen = s.rxlen := rfl
@[simp] theorem State.goto_txbuf (s : State) (p : Phase) : (s.goto p).txbuf = s.txbuf := rfl
@[simp] theorem State.goto_phase (s : State) (p : Phase) : (s.goto p).phase = p := rfl
@[simp] theorem State.goto_status (s : State) (p : Phase) : (s.goto p).status = s.status := rfl
@[simp] theorem State.goto_ports (s : State) (p : Phase) : (s.goto p).ports = s.ports := rfl
@[simp] theorem State.goto_cfg (s : State) (p : Phase) : (s.goto p).cfg = s.cfg := rfl
@[simp] theorem State.goto_resetSeen (s : State) (p : Phase) : (s.goto p).resetSeen = s.resetSeen := rfl
@[simp] theorem State.goto_host (s : State) (p : Phase) : (s.goto p).host = s.host := rfl
@[simp] theorem State.goto_trace (s : State) (p : Phase) : (s.goto p).trace = s.trace := rfl
@[simp] theorem State.goto_wire (s : State) (p : Phase) : (s.goto p).wire = s.wire := rfl
@[simp] theorem State.goto_draws (s : State) (p : Phase) : (s.goto p).draws = s.draws := rfl

/-! ### STATUS: `setStatus` -/

@[simp] theorem State.setStatus_meas (s : State) (c : Status) : (s.setStatus c).meas = s.meas := rfl
@[simp] theorem State.setStatus_lastAdv (s : State) (c : Status) : (s.setStatus c).lastAdv = s.lastAdv := rfl
@[simp] theorem State.setStatus_crcAcc (s : State) (c : Status) : (s.setStatus c).crcAcc = s.crcAcc := rfl
@[simp] theorem State.setStatus_rxbuf (s : State) (c : Status) : (s.setStatus c).rxbuf = s.rxbuf := rfl
@[simp] theorem State.setStatus_rxlen (s : State) (c : Status) : (s.setStatus c).rxlen = s.rxlen := rfl
@[simp] theorem State.setStatus_txbuf (s : State) (c : Status) : (s.setStatus c).txbuf = s.txbuf := rfl
@[simp] theorem State.setStatus_phase (s : State) (c : Status) : (s.setStatus c).phase = s.phase := rfl
@[simp] theorem State.setStatus_status (s : State) (c : Status) : (s.setStatus c).status = c := rfl
@[simp] theorem State.setStatus_ports (s : State) (c : Status) : (s.setStatus c).ports = s.ports := rfl
@[simp] theorem State.setStatus_cfg (s : State) (c : Status) : (s.setStatus c).cfg = s.cfg := rfl
@[simp] theorem State.setStatus_resetSeen (s : State) (c : Status) : (s.setStatus c).resetSeen = s.resetSeen := rfl
@[simp] theorem State.setStatus_host (s : State) (c : Status) : (s.setStatus c).host = s.host := rfl
@[simp] theorem State.setStatus_trace (s : State) (c : Status) : (s.setStatus c).trace = s.trace := rfl
@[simp] theorem State.setStatus_wire (s : State) (c : Status) : (s.setStatus c).wire = s.wire := rfl
@[simp] theorem State.setStatus_draws (s : State) (c : Status) : (s.setStatus c).draws = s.draws := rfl

/-! ### CRC_ACC: `setCrcAcc` -/

@[simp] theorem State.setCrcAcc_meas (s : State) (a : Half) : (s.setCrcAcc a).meas = s.meas := rfl
@[simp] theorem State.setCrcAcc_lastAdv (s : State) (a : Half) : (s.setCrcAcc a).lastAdv = s.lastAdv := rfl
@[simp] theorem State.setCrcAcc_crcAcc (s : State) (a : Half) : (s.setCrcAcc a).crcAcc = a := rfl
@[simp] theorem State.setCrcAcc_rxbuf (s : State) (a : Half) : (s.setCrcAcc a).rxbuf = s.rxbuf := rfl
@[simp] theorem State.setCrcAcc_rxlen (s : State) (a : Half) : (s.setCrcAcc a).rxlen = s.rxlen := rfl
@[simp] theorem State.setCrcAcc_txbuf (s : State) (a : Half) : (s.setCrcAcc a).txbuf = s.txbuf := rfl
@[simp] theorem State.setCrcAcc_phase (s : State) (a : Half) : (s.setCrcAcc a).phase = s.phase := rfl
@[simp] theorem State.setCrcAcc_status (s : State) (a : Half) : (s.setCrcAcc a).status = s.status := rfl
@[simp] theorem State.setCrcAcc_ports (s : State) (a : Half) : (s.setCrcAcc a).ports = s.ports := rfl
@[simp] theorem State.setCrcAcc_cfg (s : State) (a : Half) : (s.setCrcAcc a).cfg = s.cfg := rfl
@[simp] theorem State.setCrcAcc_resetSeen (s : State) (a : Half) : (s.setCrcAcc a).resetSeen = s.resetSeen := rfl
@[simp] theorem State.setCrcAcc_host (s : State) (a : Half) : (s.setCrcAcc a).host = s.host := rfl
@[simp] theorem State.setCrcAcc_trace (s : State) (a : Half) : (s.setCrcAcc a).trace = s.trace := rfl
@[simp] theorem State.setCrcAcc_wire (s : State) (a : Half) : (s.setCrcAcc a).wire = s.wire := rfl
@[simp] theorem State.setCrcAcc_draws (s : State) (a : Half) : (s.setCrcAcc a).draws = s.draws := rfl

/-! ### MEAS and LAST_ADV: `setMeas` -/

@[simp] theorem State.setMeas_meas (s : State) (m : BitVec 11) (t : Nat) : (s.setMeas m t).meas = m := rfl
@[simp] theorem State.setMeas_lastAdv (s : State) (m : BitVec 11) (t : Nat) : (s.setMeas m t).lastAdv = t := rfl
@[simp] theorem State.setMeas_crcAcc (s : State) (m : BitVec 11) (t : Nat) : (s.setMeas m t).crcAcc = s.crcAcc := rfl
@[simp] theorem State.setMeas_rxbuf (s : State) (m : BitVec 11) (t : Nat) : (s.setMeas m t).rxbuf = s.rxbuf := rfl
@[simp] theorem State.setMeas_rxlen (s : State) (m : BitVec 11) (t : Nat) : (s.setMeas m t).rxlen = s.rxlen := rfl
@[simp] theorem State.setMeas_txbuf (s : State) (m : BitVec 11) (t : Nat) : (s.setMeas m t).txbuf = s.txbuf := rfl
@[simp] theorem State.setMeas_phase (s : State) (m : BitVec 11) (t : Nat) : (s.setMeas m t).phase = s.phase := rfl
@[simp] theorem State.setMeas_status (s : State) (m : BitVec 11) (t : Nat) : (s.setMeas m t).status = s.status := rfl
@[simp] theorem State.setMeas_ports (s : State) (m : BitVec 11) (t : Nat) : (s.setMeas m t).ports = s.ports := rfl
@[simp] theorem State.setMeas_cfg (s : State) (m : BitVec 11) (t : Nat) : (s.setMeas m t).cfg = s.cfg := rfl
@[simp] theorem State.setMeas_resetSeen (s : State) (m : BitVec 11) (t : Nat) :
    (s.setMeas m t).resetSeen =
      s.resetSeen := rfl
@[simp] theorem State.setMeas_host (s : State) (m : BitVec 11) (t : Nat) : (s.setMeas m t).host = s.host := rfl
@[simp] theorem State.setMeas_trace (s : State) (m : BitVec 11) (t : Nat) : (s.setMeas m t).trace = s.trace := rfl
@[simp] theorem State.setMeas_wire (s : State) (m : BitVec 11) (t : Nat) : (s.setMeas m t).wire = s.wire := rfl
@[simp] theorem State.setMeas_draws (s : State) (m : BitVec 11) (t : Nat) : (s.setMeas m t).draws = s.draws := rfl

/-! ### The channel read: `loadRx` -/

@[simp] theorem State.loadRx_meas (s : State) (b : List Byte) : (s.loadRx b).meas = s.meas := rfl
@[simp] theorem State.loadRx_lastAdv (s : State) (b : List Byte) : (s.loadRx b).lastAdv = s.lastAdv := rfl
@[simp] theorem State.loadRx_crcAcc (s : State) (b : List Byte) : (s.loadRx b).crcAcc = s.crcAcc := rfl
@[simp] theorem State.loadRx_rxbuf (s : State) (b : List Byte) :
    (s.loadRx b).rxbuf =
      #v[s.byteOr b 0, s.byteOr b 1, s.byteOr b 2, s.byteOr b 3, s.byteOr b 4, s.byteOr b 5, s.byteOr b 6, s.byteOr b 7] := rfl
@[simp] theorem State.loadRx_rxlen (s : State) (b : List Byte) : (s.loadRx b).rxlen = BitVec.ofNat 4 b.length := rfl
@[simp] theorem State.loadRx_txbuf (s : State) (b : List Byte) : (s.loadRx b).txbuf = s.txbuf := rfl
@[simp] theorem State.loadRx_phase (s : State) (b : List Byte) : (s.loadRx b).phase = s.phase := rfl
@[simp] theorem State.loadRx_status (s : State) (b : List Byte) : (s.loadRx b).status = s.status := rfl
@[simp] theorem State.loadRx_ports (s : State) (b : List Byte) : (s.loadRx b).ports = s.ports := rfl
@[simp] theorem State.loadRx_cfg (s : State) (b : List Byte) : (s.loadRx b).cfg = s.cfg := rfl
@[simp] theorem State.loadRx_resetSeen (s : State) (b : List Byte) : (s.loadRx b).resetSeen = s.resetSeen := rfl
@[simp] theorem State.loadRx_host (s : State) (b : List Byte) : (s.loadRx b).host = s.host := rfl
@[simp] theorem State.loadRx_trace (s : State) (b : List Byte) : (s.loadRx b).trace = s.trace := rfl
@[simp] theorem State.loadRx_wire (s : State) (b : List Byte) : (s.loadRx b).wire = s.wire := rfl
@[simp] theorem State.loadRx_draws (s : State) (b : List Byte) : (s.loadRx b).draws = s.draws + 8 := rfl

/-! ### TXBUF: `loadTx` -/

@[simp] theorem State.loadTx_meas (s : State) (f : Vector Byte 7) : (s.loadTx f).meas = s.meas := rfl
@[simp] theorem State.loadTx_lastAdv (s : State) (f : Vector Byte 7) : (s.loadTx f).lastAdv = s.lastAdv := rfl
@[simp] theorem State.loadTx_crcAcc (s : State) (f : Vector Byte 7) : (s.loadTx f).crcAcc = s.crcAcc := rfl
@[simp] theorem State.loadTx_rxbuf (s : State) (f : Vector Byte 7) : (s.loadTx f).rxbuf = s.rxbuf := rfl
@[simp] theorem State.loadTx_rxlen (s : State) (f : Vector Byte 7) : (s.loadTx f).rxlen = s.rxlen := rfl
@[simp] theorem State.loadTx_txbuf (s : State) (f : Vector Byte 7) : (s.loadTx f).txbuf = f := rfl
@[simp] theorem State.loadTx_phase (s : State) (f : Vector Byte 7) : (s.loadTx f).phase = s.phase := rfl
@[simp] theorem State.loadTx_status (s : State) (f : Vector Byte 7) : (s.loadTx f).status = s.status := rfl
@[simp] theorem State.loadTx_ports (s : State) (f : Vector Byte 7) : (s.loadTx f).ports = s.ports := rfl
@[simp] theorem State.loadTx_cfg (s : State) (f : Vector Byte 7) : (s.loadTx f).cfg = s.cfg := rfl
@[simp] theorem State.loadTx_resetSeen (s : State) (f : Vector Byte 7) : (s.loadTx f).resetSeen = s.resetSeen := rfl
@[simp] theorem State.loadTx_host (s : State) (f : Vector Byte 7) : (s.loadTx f).host = s.host := rfl
@[simp] theorem State.loadTx_trace (s : State) (f : Vector Byte 7) : (s.loadTx f).trace = s.trace := rfl
@[simp] theorem State.loadTx_wire (s : State) (f : Vector Byte 7) : (s.loadTx f).wire = s.wire := rfl
@[simp] theorem State.loadTx_draws (s : State) (f : Vector Byte 7) : (s.loadTx f).draws = s.draws := rfl

/-! ### Bytes reaching the master: `deliver` -/

@[simp] theorem State.deliver_meas (s : State) (n used : Nat) : (s.deliver n used).meas = s.meas := rfl
@[simp] theorem State.deliver_lastAdv (s : State) (n used : Nat) : (s.deliver n used).lastAdv = s.lastAdv := rfl
@[simp] theorem State.deliver_crcAcc (s : State) (n used : Nat) : (s.deliver n used).crcAcc = s.crcAcc := rfl
@[simp] theorem State.deliver_rxbuf (s : State) (n used : Nat) : (s.deliver n used).rxbuf = s.rxbuf := rfl
@[simp] theorem State.deliver_rxlen (s : State) (n used : Nat) : (s.deliver n used).rxlen = s.rxlen := rfl
@[simp] theorem State.deliver_txbuf (s : State) (n used : Nat) : (s.deliver n used).txbuf = s.txbuf := rfl
@[simp] theorem State.deliver_phase (s : State) (n used : Nat) : (s.deliver n used).phase = s.phase := rfl
@[simp] theorem State.deliver_status (s : State) (n used : Nat) : (s.deliver n used).status = s.status := rfl
@[simp] theorem State.deliver_ports (s : State) (n used : Nat) : (s.deliver n used).ports = s.ports := rfl
@[simp] theorem State.deliver_cfg (s : State) (n used : Nat) : (s.deliver n used).cfg = s.cfg := rfl
@[simp] theorem State.deliver_resetSeen (s : State) (n used : Nat) : (s.deliver n used).resetSeen = s.resetSeen := rfl
@[simp] theorem State.deliver_host (s : State) (n used : Nat) : (s.deliver n used).host = s.host := rfl
@[simp] theorem State.deliver_trace (s : State) (n used : Nat) : (s.deliver n used).trace = s.trace := rfl
@[simp] theorem State.deliver_wire (s : State) (n used : Nat) :
    (s.deliver n used).wire =
      s.wire ++ s.txFrame.take n := rfl
@[simp] theorem State.deliver_draws (s : State) (n used : Nat) : (s.deliver n used).draws = s.draws + used := rfl

/-! ### A transaction taken: `latch` -/

@[simp] theorem State.latch_meas (s : State) (t : Ports) (rest : List Ports) : (s.latch t rest).meas = s.meas := rfl
@[simp] theorem State.latch_lastAdv (s : State) (t : Ports) (rest : List Ports) :
    (s.latch t rest).lastAdv =
      s.lastAdv := rfl
@[simp] theorem State.latch_crcAcc (s : State) (t : Ports) (rest : List Ports) :
    (s.latch t rest).crcAcc =
      s.crcAcc := rfl
@[simp] theorem State.latch_rxbuf (s : State) (t : Ports) (rest : List Ports) :
    (s.latch t rest).rxbuf =
      s.rxbuf := rfl
@[simp] theorem State.latch_rxlen (s : State) (t : Ports) (rest : List Ports) :
    (s.latch t rest).rxlen =
      s.rxlen := rfl
@[simp] theorem State.latch_txbuf (s : State) (t : Ports) (rest : List Ports) :
    (s.latch t rest).txbuf =
      s.txbuf := rfl
@[simp] theorem State.latch_phase (s : State) (t : Ports) (rest : List Ports) :
    (s.latch t rest).phase =
      s.phase := rfl
@[simp] theorem State.latch_status (s : State) (t : Ports) (rest : List Ports) :
    (s.latch t rest).status =
      s.status := rfl
@[simp] theorem State.latch_ports (s : State) (t : Ports) (rest : List Ports) : (s.latch t rest).ports = t := rfl
@[simp] theorem State.latch_cfg (s : State) (t : Ports) (rest : List Ports) : (s.latch t rest).cfg = s.cfg := rfl
@[simp] theorem State.latch_resetSeen (s : State) (t : Ports) (rest : List Ports) :
    (s.latch t rest).resetSeen =
      s.resetSeen := rfl
@[simp] theorem State.latch_host (s : State) (t : Ports) (rest : List Ports) : (s.latch t rest).host = rest := rfl
@[simp] theorem State.latch_trace (s : State) (t : Ports) (rest : List Ports) :
    (s.latch t rest).trace =
      s.trace := rfl
@[simp] theorem State.latch_wire (s : State) (t : Ports) (rest : List Ports) : (s.latch t rest).wire = s.wire := rfl
@[simp] theorem State.latch_draws (s : State) (t : Ports) (rest : List Ports) :
    (s.latch t rest).draws =
      s.draws := rfl

/-! ### A transaction added to the list: `present` -/

@[simp] theorem State.present_meas (s : State) (t : Ports) : (s.present t).meas = s.meas := rfl
@[simp] theorem State.present_lastAdv (s : State) (t : Ports) : (s.present t).lastAdv = s.lastAdv := rfl
@[simp] theorem State.present_crcAcc (s : State) (t : Ports) : (s.present t).crcAcc = s.crcAcc := rfl
@[simp] theorem State.present_rxbuf (s : State) (t : Ports) : (s.present t).rxbuf = s.rxbuf := rfl
@[simp] theorem State.present_rxlen (s : State) (t : Ports) : (s.present t).rxlen = s.rxlen := rfl
@[simp] theorem State.present_txbuf (s : State) (t : Ports) : (s.present t).txbuf = s.txbuf := rfl
@[simp] theorem State.present_phase (s : State) (t : Ports) : (s.present t).phase = s.phase := rfl
@[simp] theorem State.present_status (s : State) (t : Ports) : (s.present t).status = s.status := rfl
@[simp] theorem State.present_ports (s : State) (t : Ports) : (s.present t).ports = s.ports := rfl
@[simp] theorem State.present_cfg (s : State) (t : Ports) : (s.present t).cfg = s.cfg := rfl
@[simp] theorem State.present_resetSeen (s : State) (t : Ports) : (s.present t).resetSeen = s.resetSeen := rfl
@[simp] theorem State.present_host (s : State) (t : Ports) : (s.present t).host = s.host ++ [t] := rfl
@[simp] theorem State.present_trace (s : State) (t : Ports) : (s.present t).trace = s.trace := rfl
@[simp] theorem State.present_wire (s : State) (t : Ports) : (s.present t).wire = s.wire := rfl
@[simp] theorem State.present_draws (s : State) (t : Ports) : (s.present t).draws = s.draws := rfl

/-! ### Fatal entry (R132): STATUS and PHASE and nothing else: `raiseFatal` -/

@[simp] theorem State.raiseFatal_meas (s : State) (c : Status) : (s.raiseFatal c).meas = s.meas := rfl
@[simp] theorem State.raiseFatal_lastAdv (s : State) (c : Status) : (s.raiseFatal c).lastAdv = s.lastAdv := rfl
@[simp] theorem State.raiseFatal_crcAcc (s : State) (c : Status) : (s.raiseFatal c).crcAcc = s.crcAcc := rfl
@[simp] theorem State.raiseFatal_rxbuf (s : State) (c : Status) : (s.raiseFatal c).rxbuf = s.rxbuf := rfl
@[simp] theorem State.raiseFatal_rxlen (s : State) (c : Status) : (s.raiseFatal c).rxlen = s.rxlen := rfl
@[simp] theorem State.raiseFatal_txbuf (s : State) (c : Status) : (s.raiseFatal c).txbuf = s.txbuf := rfl
@[simp] theorem State.raiseFatal_phase (s : State) (c : Status) : (s.raiseFatal c).phase = .halt := rfl
@[simp] theorem State.raiseFatal_status (s : State) (c : Status) : (s.raiseFatal c).status = c := rfl
@[simp] theorem State.raiseFatal_ports (s : State) (c : Status) : (s.raiseFatal c).ports = s.ports := rfl
@[simp] theorem State.raiseFatal_cfg (s : State) (c : Status) : (s.raiseFatal c).cfg = s.cfg := rfl
@[simp] theorem State.raiseFatal_resetSeen (s : State) (c : Status) : (s.raiseFatal c).resetSeen = s.resetSeen := rfl
@[simp] theorem State.raiseFatal_host (s : State) (c : Status) : (s.raiseFatal c).host = s.host := rfl
@[simp] theorem State.raiseFatal_trace (s : State) (c : Status) : (s.raiseFatal c).trace = s.trace := rfl
@[simp] theorem State.raiseFatal_wire (s : State) (c : Status) : (s.raiseFatal c).wire = s.wire := rfl
@[simp] theorem State.raiseFatal_draws (s : State) (c : Status) : (s.raiseFatal c).draws = s.draws := rfl

/-! ### RESET's writes (R150): `initialise` -/

@[simp] theorem State.initialise_meas (s : State) (t : Nat) : (s.initialise t).meas = 0 := rfl
@[simp] theorem State.initialise_lastAdv (s : State) (t : Nat) : (s.initialise t).lastAdv = t := rfl
@[simp] theorem State.initialise_crcAcc (s : State) (t : Nat) : (s.initialise t).crcAcc = 0xFFFF := rfl
@[simp] theorem State.initialise_rxbuf (s : State) (t : Nat) :
    (s.initialise t).rxbuf =
      #v[s.byteOr [] 0, s.byteOr [] 1, s.byteOr [] 2, s.byteOr [] 3, s.byteOr [] 4, s.byteOr [] 5, s.byteOr [] 6, s.byteOr [] 7] := rfl
@[simp] theorem State.initialise_rxlen (s : State) (t : Nat) : (s.initialise t).rxlen = 0 := rfl
@[simp] theorem State.initialise_txbuf (s : State) (t : Nat) :
    (s.initialise t).txbuf =
      #v[s.byteOr [] 8, s.byteOr [] 9, s.byteOr [] 10, s.byteOr [] 11, s.byteOr [] 12, s.byteOr [] 13, s.byteOr [] 14] := rfl
@[simp] theorem State.initialise_phase (s : State) (t : Nat) : (s.initialise t).phase = .top := rfl
@[simp] theorem State.initialise_status (s : State) (t : Nat) : (s.initialise t).status = .run := rfl
@[simp] theorem State.initialise_ports (s : State) (t : Nat) : (s.initialise t).ports = s.ports := rfl
@[simp] theorem State.initialise_cfg (s : State) (t : Nat) : (s.initialise t).cfg = s.cfg := rfl
@[simp] theorem State.initialise_resetSeen (s : State) (t : Nat) : (s.initialise t).resetSeen = true := rfl
@[simp] theorem State.initialise_host (s : State) (t : Nat) : (s.initialise t).host = s.host := rfl
@[simp] theorem State.initialise_trace (s : State) (t : Nat) : (s.initialise t).trace = s.trace := rfl
@[simp] theorem State.initialise_wire (s : State) (t : Nat) : (s.initialise t).wire = s.wire := rfl
@[simp] theorem State.initialise_draws (s : State) (t : Nat) : (s.initialise t).draws = s.draws + 15 := rfl

/-! ### ADVANCE (R80): MEAS and LAST_ADV and nothing else -/

theorem State.advance_of_elapsed {s : State} {now : Nat} (h : (s.cfg.t1s : Int) ≤ s.elapsed now) :
    s.advance now = s.setMeas (measSucc s.meas) now := if_pos h

theorem State.advance_of_not_elapsed {s : State} {now : Nat} (h : ¬ (s.cfg.t1s : Int) ≤ s.elapsed now) :
    s.advance now = s := if_neg h

@[simp] theorem State.advance_crcAcc (s : State) (now : Nat) : (s.advance now).crcAcc = s.crcAcc := by
  unfold State.advance; split <;> rfl
@[simp] theorem State.advance_rxbuf (s : State) (now : Nat) : (s.advance now).rxbuf = s.rxbuf := by
  unfold State.advance; split <;> rfl
@[simp] theorem State.advance_rxlen (s : State) (now : Nat) : (s.advance now).rxlen = s.rxlen := by
  unfold State.advance; split <;> rfl
@[simp] theorem State.advance_txbuf (s : State) (now : Nat) : (s.advance now).txbuf = s.txbuf := by
  unfold State.advance; split <;> rfl
@[simp] theorem State.advance_phase (s : State) (now : Nat) : (s.advance now).phase = s.phase := by
  unfold State.advance; split <;> rfl
@[simp] theorem State.advance_status (s : State) (now : Nat) : (s.advance now).status = s.status := by
  unfold State.advance; split <;> rfl
@[simp] theorem State.advance_ports (s : State) (now : Nat) : (s.advance now).ports = s.ports := by
  unfold State.advance; split <;> rfl
@[simp] theorem State.advance_cfg (s : State) (now : Nat) : (s.advance now).cfg = s.cfg := by
  unfold State.advance; split <;> rfl
@[simp] theorem State.advance_resetSeen (s : State) (now : Nat) : (s.advance now).resetSeen = s.resetSeen := by
  unfold State.advance; split <;> rfl
@[simp] theorem State.advance_host (s : State) (now : Nat) : (s.advance now).host = s.host := by
  unfold State.advance; split <;> rfl
@[simp] theorem State.advance_trace (s : State) (now : Nat) : (s.advance now).trace = s.trace := by
  unfold State.advance; split <;> rfl
@[simp] theorem State.advance_wire (s : State) (now : Nat) : (s.advance now).wire = s.wire := by
  unfold State.advance; split <;> rfl
@[simp] theorem State.advance_draws (s : State) (now : Nat) : (s.advance now).draws = s.draws := by
  unfold State.advance; split <;> rfl

/-! ### The frames read out of the buffers -/

@[simp] theorem State.rxFrame_emit (s : State) (e : Event) : (s.emit e).rxFrame = s.rxFrame := rfl
@[simp] theorem State.rxFrame_goto (s : State) (p : Phase) : (s.goto p).rxFrame = s.rxFrame := rfl
@[simp] theorem State.rxFrame_loadTx (s : State) (f : Vector Byte 7) : (s.loadTx f).rxFrame = s.rxFrame := rfl
@[simp] theorem State.rxFrame_deliver (s : State) (n used : Nat) : (s.deliver n used).rxFrame = s.rxFrame := rfl
@[simp] theorem State.txFrame_emit (s : State) (e : Event) : (s.emit e).txFrame = s.txFrame := rfl
@[simp] theorem State.txFrame_goto (s : State) (p : Phase) : (s.goto p).txFrame = s.txFrame := rfl
@[simp] theorem State.txFrame_loadTx (s : State) (f : Vector Byte 7) : (s.loadTx f).txFrame = f.toList := rfl
@[simp] theorem State.txFrame_deliver (s : State) (n used : Nat) : (s.deliver n used).txFrame = s.txFrame := rfl
@[simp] theorem State.measValue_goto (s : State) (p : Phase) : (s.goto p).measValue = s.measValue := rfl
@[simp] theorem State.measValue_emit (s : State) (e : Event) : (s.emit e).measValue = s.measValue := rfl
@[simp] theorem State.measValue_loadRx (s : State) (b : List Byte) : (s.loadRx b).measValue = s.measValue := rfl

end Sys2Proof.Machine
end

