-- ==== Sys2Proof/Laws/Ops.lean ====
section
/-! SUPPORT. One spec lemma per shared operation: what a proof needs to know of it, so that it is not unfolded again. -/

namespace Sys2Proof.Machine

/-! ### Sequencing -/

@[simp] theorem andThen_next (s : State) (f : State → Out) : andThen (.next s) f = f s := rfl
@[simp] theorem andThen_fault (r : Fault) (f : State → Out) : andThen (.fault r) f = .fault r := rfl
@[simp] theorem andThen_refused (r : Refusal) (f : State → Out) : andThen (.refused r) f = .refused r := rfl

/-- An outcome reached through two parts was reached through a next state of the first. -/
theorem andThen_eq_next {o : Out} {f : State → Out} {t : State} (h : andThen o f = .next t) :
    ∃ s, o = .next s ∧ f s = .next t := by
  cases o with
  | next s => exact ⟨s, rfl, h⟩
  | fault r => cases h
  | refused r => cases h

/-! ### What a transaction checks first -/

theorem illFormed_iff (s : State) : s.illFormed = true ↔ s.resetSeen = true ∧ 2000 < s.meas.toNat := by
  simp [State.illFormed]

theorem illFormed_eq_false {s : State} (h : s.resetSeen = true → s.meas.toNat ≤ 2000) : s.illFormed = false := by
  cases hr : s.resetSeen with
  | false => simp [State.illFormed, hr]
  | true => simpa [State.illFormed, hr] using h hr

/-- Nothing refuses a command exactly when the state accepts commands. -/
theorem refusal_eq_none_iff (s : State) : s.refusal = none ↔ Accepting s := by
  constructor
  · intro h
    unfold State.refusal at h
    split at h
    · cases h
    · split at h
      · cases h
      · split at h
        · cases h
        · split at h
          · cases h
          · rename_i hr hm hs hp
            have hr' : s.resetSeen = true := by simpa using hr
            refine ⟨hr', ?_, by simpa using hs, hp⟩
            have := mt (illFormed_iff s).2 hm
            exact Nat.le_of_not_lt fun h => this ⟨hr', h⟩
  · intro h
    simp [State.refusal, h.resetSeen, h.running, h.notHalted, illFormed_eq_false fun _ => h.measLegal]

theorem perform_of_accepting {s : State} (h : Accepting s) (o : Out) : s.perform o = o := by
  simp [State.perform, (refusal_eq_none_iff s).2 h]

theorem perform_of_not_accepting {s : State} (h : ¬ Accepting s) (o : Out) : ∃ r, s.perform o = .refused r := by
  cases hr : s.refusal with
  | none => exact absurd ((refusal_eq_none_iff s).1 hr) h
  | some r => exact ⟨r, by simp [State.perform, hr]⟩

/-- A performed instruction that answers a next state was performed in an accepting state. -/
theorem perform_eq_next {s t : State} {o : Out} (h : s.perform o = .next t) : Accepting s ∧ o = .next t := by
  by_cases ha : Accepting s
  · exact ⟨ha, by rwa [perform_of_accepting ha] at h⟩
  · obtain ⟨r, hr⟩ := perform_of_not_accepting ha o
    rw [hr] at h
    cases h

/-- The refusal depends on the first RESET, MEAS, STATUS and PHASE only. -/
theorem refusal_congr {s t : State} (hr : t.resetSeen = s.resetSeen) (hm : t.meas = s.meas)
    (hs : t.status = s.status) (hp : t.phase = s.phase) : t.refusal = s.refusal := by
  simp [State.refusal, State.illFormed, hr, hm, hs, hp]

/-! ### DST -/

theorem measSucc_toNat (m : BitVec 11) : (measSucc m).toNat = (m.toNat + 1) % 2001 := by
  have h : (m.toNat + 1) % 2001 < 2 ^ 11 := by omega
  simp only [measSucc, Config.MEAS_MOD, BitVec.toNat_ofNat, Nat.mod_eq_of_lt h]

theorem measSucc_legal (m : BitVec 11) : (measSucc m).toNat ≤ 2000 := by
  rw [measSucc_toNat]
  omega

/-- ADVANCE either increments and takes the time, or changes nothing. -/
theorem advance_cases (s : State) (now : Nat) :
    ((s.cfg.t1s : Int) ≤ s.elapsed now ∧ s.advance now = s.setMeas (measSucc s.meas) now) ∨
    (¬ (s.cfg.t1s : Int) ≤ s.elapsed now ∧ s.advance now = s) := by
  by_cases h : (s.cfg.t1s : Int) ≤ s.elapsed now
  · exact .inl ⟨h, State.advance_of_elapsed h⟩
  · exact .inr ⟨h, State.advance_of_not_elapsed h⟩

theorem advance_measLegal {s : State} (h : s.meas.toNat ≤ 2000) (now : Nat) :
    (s.advance now).meas.toNat ≤ 2000 := by
  rcases advance_cases s now with ⟨_, e⟩ | ⟨_, e⟩ <;> rw [e]
  · exact measSucc_legal _
  · exact h

theorem Accepting.advance {s : State} (h : Accepting s) (now : Nat) : Accepting (s.advance now) :=
  ⟨by simp [h.resetSeen], advance_measLegal h.measLegal now, by simp [h.running], by simp [h.notHalted]⟩

theorem Accepting.legal_measValue {s : State} (h : Accepting s) : s.measValue.toNat = s.meas.toNat ∧ s.measValue.toNat ≤ 2000 := by
  have := h.measLegal
  have h2 : s.measValue.toNat = s.meas.toNat := by
    simp only [State.measValue, BitVec.toNat_setWidth]
    omega
  exact ⟨h2, by omega⟩

theorem measValue_eq (s : State) : s.measValue = BitVec.ofNat 16 s.meas.toNat := by
  simp [State.measValue]

/-! ### The channel read -/

/-- A full read fills RXBUF with exactly the bytes read. -/
theorem rxFrame_loadRx {s : State} {b : List Byte} (h : b.length = 8) : (s.loadRx b).rxFrame = b := by
  match b, h with
  | [_, _, _, _, _, _, _, _], _ => rfl

/-- A read of at most 8 bytes fills RXBUF from index 0. -/
theorem rxFrame_loadRx_take {s : State} {b : List Byte} (h : b.length ≤ 8) :
    (s.loadRx b).rxFrame.take b.length = b := by
  match b, h with
  | [], _ => rfl
  | [_], _ => rfl
  | [_, _], _ => rfl
  | [_, _, _], _ => rfl
  | [_, _, _, _], _ => rfl
  | [_, _, _, _, _], _ => rfl
  | [_, _, _, _, _, _], _ => rfl
  | [_, _, _, _, _, _, _], _ => rfl
  | [_, _, _, _, _, _, _, _], _ => rfl
  | _ :: _ :: _ :: _ :: _ :: _ :: _ :: _ :: _ :: l, h => simp only [List.length_cons] at h; omega

theorem rxlen_loadRx {s : State} {b : List Byte} (h : b.length ≤ 8) : (s.loadRx b).rxlen.toNat = b.length := by
  simp only [State.loadRx_rxlen, BitVec.toNat_ofNat]
  omega

/-! ### CHK, RQV and RSB -/

@[simp] theorem crc_nil : crc [] = 0xFFFF := rfl

theorem crc_append (s t : List Byte) : crc (s ++ t) = t.foldl crcByte (crc s) := by
  simp [crc]

/-- The classifier, as one condition on the buffer. -/
theorem classify_eq_accepted_iff (buf : List Byte) :
    classify buf = .accepted ↔ ∃ e f g h, buf = [0x01, 0x04, 0x00, 0x00, e, f, g, h] := by
  constructor
  · intro hc
    by_cases hl : buf.length = 8
    · match buf, hl with
      | [a, b, c, d, e, f, g, h], _ =>
        refine ⟨e, f, g, h, ?_⟩
        simp only [classify] at hc
        split at hc <;> try cases hc
        split at hc <;> try cases hc
        split at hc <;> try cases hc
        split at hc <;> try cases hc
        split at hc <;> try cases hc
        simp_all
    · simp [classify, hl] at hc
  · rintro ⟨e, f, g, h, rfl⟩
    rfl

theorem classify_eq_rejected_iff (buf : List Byte) : classify buf = .rejected ↔ classify buf ≠ .accepted := by
  cases classify buf <;> simp

theorem answers_iff (b : List Byte) : answers b = true ↔ classify b = .accepted := by
  constructor
  · simp [answers]
  · intro h
    obtain ⟨e, f, g, k, rfl⟩ := (classify_eq_accepted_iff b).1 h
    rfl

/-- A response frame, byte by byte. -/
theorem build_toList (v : Half) :
    (build v).toList =
      [0x01, 0x04, 0x02, hiByte v, loByte v,
       loByte (crc [0x01, 0x04, 0x02, hiByte v, loByte v]), hiByte (crc [0x01, 0x04, 0x02, hiByte v, loByte v])] := rfl

theorem build_length (v : Half) : (build v).toList.length = 7 := rfl

end Sys2Proof.Machine
end

