-- ==== Sys2Proof/Laws/Loop.lean ====
section
/-! SUPPORT. The sequencer: what each phase does, and the phases that follow it in one iteration. -/

namespace Sys2Proof.Machine

/-! ### One phase -/

theorem phaseStep_top {s : State} (h : s.phase = .top) : phaseStep s = phaseTop s := by simp [phaseStep, h]
theorem phaseStep_adv {s : State} (h : s.phase = .adv) : phaseStep s = phaseAdv s := by simp [phaseStep, h]
theorem phaseStep_read {s : State} (h : s.phase = .read) : phaseStep s = phaseRead s := by simp [phaseStep, h]
theorem phaseStep_classify {s : State} (h : s.phase = .classify) : phaseStep s = phaseClassify s := by
  simp [phaseStep, h]
theorem phaseStep_build {s : State} (h : s.phase = .build) : phaseStep s = phaseBuild s := by simp [phaseStep, h]
theorem phaseStep_write {s : State} (h : s.phase = .write) : phaseStep s = phaseWrite s := by simp [phaseStep, h]
theorem phaseStep_yield {s : State} (h : s.phase = .yield) : phaseStep s = phaseYield s := by simp [phaseStep, h]

/-- P_READ: the three answers (R113). -/
theorem phaseRead_fail {s : State} (h : s.ports.rx = .fail) :
    phaseRead s = .next ((s.emit (.chanRead 8 s.cfg.readTimeout)).raiseFatal .faultRx) := by
  simp [phaseRead, h]

theorem phaseRead_full {s : State} {b : List Byte} (h : s.ports.rx = .bytes b) (hl : b.length = 8) :
    phaseRead s = .next (((s.emit (.chanRead 8 s.cfg.readTimeout)).loadRx b).goto .classify) := by
  simp [phaseRead, h, hl]

theorem phaseRead_short {s : State} {b : List Byte} (h : s.ports.rx = .bytes b) (hl : b.length < 8) :
    phaseRead s = .next (((s.emit (.chanRead 8 s.cfg.readTimeout)).loadRx b).goto .yield) := by
  have h1 : b.length ≤ 8 := by omega
  have h2 : b.length ≠ 8 := by omega
  simp [phaseRead, h, h1, h2]

theorem phaseRead_long {s : State} {b : List Byte} (h : s.ports.rx = .bytes b) (hl : 8 < b.length) :
    phaseRead s = .refused .rxTooLong := by
  have h1 : ¬ b.length ≤ 8 := by omega
  simp [phaseRead, h, h1]

/-- P_WRITE: the two answers, and none (R116, R44). -/
theorem phaseWrite_ok {s : State} (h : s.ports.tx = some .ok) :
    phaseWrite s =
      .next ((((s.emit (.chanWrite s.txFrame)).deliver 7 0).emit (.mon s.rxFrame s.txFrame)).goto .yield) := by
  simp [phaseWrite, h]

theorem phaseWrite_fail {s : State} (h : s.ports.tx = some .fail) :
    phaseWrite s =
      .next (((s.emit (.chanWrite s.txFrame)).deliver (Config.freeCount s.draws % 8) 1).raiseFatal .faultTx) := by
  simp [phaseWrite, h]

theorem phaseWrite_none {s : State} (h : s.ports.tx = none) : phaseWrite s = .fault .stuckInWrite := by
  simp [phaseWrite, h]

/-! ### The phases that follow -/

theorem runPhases_boundary {s : State} (h : s.phase = .top ∨ s.phase = .halt) (k : Nat) : runPhases k s = .next s := by
  cases k with
  | zero => rfl
  | succ k => simp [runPhases, h]

theorem runPhases_inside {s : State} (ht : s.phase ≠ .top) (hh : s.phase ≠ .halt) (k : Nat) :
    runPhases (k + 1) s = andThen (phaseStep s) (runPhases k) := by
  simp [runPhases, ht, hh]

/-- From P_YIELD to P_TOP. -/
theorem runPhases_yield {s : State} (h : s.phase = .yield) (k : Nat) :
    runPhases (k + 1) s = .next ((s.emit (.pause s.cfg.yieldTime)).goto .top) := by
  rw [runPhases_inside (by simp [h]) (by simp [h]), phaseStep_yield h]
  exact runPhases_boundary (by simp) k

/-- From P_BUILD to the end of the iteration: what follows depends on the TX answer only. -/
theorem runPhases_build {s : State} (h : s.phase = .build) (k : Nat) :
    runPhases (k + 3) s =
      andThen (phaseWrite ((s.loadTx (build s.measValue)).goto .write)) (runPhases (k + 1)) := by
  rw [runPhases_inside (by simp [h]) (by simp [h]), phaseStep_build h]
  change runPhases (k + 2) ((s.loadTx (build s.measValue)).goto .write) = _
  rw [runPhases_inside (by simp) (by simp), phaseStep_write (by simp)]

/-- From P_CLASSIFY: an Accepted frame goes on to P_BUILD, a Rejected one to P_YIELD. -/
theorem runPhases_classify_accepted {s : State} (h : s.phase = .classify) (ha : classify s.rxFrame = .accepted)
    (k : Nat) : runPhases (k + 1) s = runPhases k (s.goto .build) := by
  rw [runPhases_inside (by simp [h]) (by simp [h]), phaseStep_classify h]
  simp [phaseClassify, ha]

theorem runPhases_classify_rejected {s : State} (h : s.phase = .classify) (ha : classify s.rxFrame = .rejected)
    (k : Nat) : runPhases (k + 1) s = runPhases k (s.goto .yield) := by
  rw [runPhases_inside (by simp [h]) (by simp [h]), phaseStep_classify h]
  simp [phaseClassify, ha]

/-- One ITERATE that does not stop: ADVANCE, then P_READ and what follows. -/
theorem execIterate_runs {s : State} (ha : Accepting s) (ht : s.phase = .top) (hs : s.ports.stop = false)
    (hf : timeFits s.cfg s.ports.now = true) :
    execIterate s = andThen (phaseRead ((s.goto .adv).advance s.ports.now |>.goto .read)) (runPhases 4) := by
  rw [execIterate, perform_of_accepting ha, if_pos ht, phaseStep_top ht]
  simp only [phaseTop, hs, Bool.false_eq_true, if_false, andThen_next]
  rw [runPhases_inside (by simp) (by simp), phaseStep_adv (by simp)]
  simp only [phaseAdv, State.goto_cfg, State.goto_ports, hf, if_true, andThen_next]
  rw [runPhases_inside (by simp) (by simp), phaseStep_read (by simp)]

/-- ADVANCE does not look at PHASE. -/
theorem goto_advance_goto (s : State) (p q : Phase) (now : Nat) :
    ((s.goto p).advance now).goto q = (s.advance now).goto q := by
  rcases advance_cases s now with ⟨h, e⟩ | ⟨h, e⟩
  · rw [e, State.advance_of_elapsed (s := s.goto p) h]; rfl
  · rw [e, State.advance_of_not_elapsed (s := s.goto p) h]; rfl

end Sys2Proof.Machine
end

