-- ==== Sys2Proof/Laws/PerInstr.lean ====
section
/-! SUPPORT. One lemma per constructor of Instr: the form of its encoding. Only RD_IR0 is a frame, of 8 bytes (R50);
every other instruction is a command word with RSV = 0 (R57) and an OP below 0xA (R59). -/

namespace Sys2Proof.Laws.EncodingForm

/-- The form of an instruction's encoding. -/
def Statement (i : Instr) : Prop :=
  match encode i with
  | .command w => cmdRsv w = 0 ∧ (cmdOp w).toNat < 10
  | .frame f => f.length = 8

theorem reset : Statement .reset := by simp [Statement, encode]
theorem crcInit : Statement .crcInit := by simp [Statement, encode]
theorem crcByte (b : Byte) : Statement (.crcByte b) := by simp [Statement, encode]
theorem crcRead : Statement .crcRead := by simp [Statement, encode]
theorem crc16 : Statement .crc16 := by simp [Statement, encode]
theorem advance : Statement .advance := by simp [Statement, encode]
theorem current : Statement .current := by simp [Statement, encode]
theorem classify : Statement .classify := by simp [Statement, encode]
theorem build (v : Half) : Statement (.build v) := by simp [Statement, encode]
theorem iterate : Statement .iterate := by simp [Statement, encode]
theorem rdIr0 (qty : Half) (crcLo crcHi : Byte) : Statement (.rdIr0 qty crcLo crcHi) := rfl

end Sys2Proof.Laws.EncodingForm
end

