-- ==== Sys2Proof/Laws/Step.lean ====
section
/-! SUPPORT. What `step` fetches, and that the host's presenting a transaction leaves the machine's readiness alone. -/

namespace Sys2Proof.Machine

theorem Accepting.latch {s : State} (h : Accepting s) (t : Ports) (rest : List Ports) : Accepting (s.latch t rest) :=
  ⟨h.resetSeen, h.measLegal, h.running, h.notHalted⟩

theorem Inv.latch {s : State} (h : Inv s) (t : Ports) (rest : List Ports) : Inv (s.latch t rest) :=
  ⟨h.measLegal, h.rxlenLegal, h.atBoundary, h.haltIffStopped⟩

theorem Accepting.present {s : State} (h : Accepting s) (t : Ports) : Accepting (s.present t) :=
  ⟨h.resetSeen, h.measLegal, h.running, h.notHalted⟩

theorem Inv.present {s : State} (h : Inv s) (t : Ports) : Inv (s.present t) :=
  ⟨h.measLegal, h.rxlenLegal, h.atBoundary, h.haltIffStopped⟩

/-- Before the first RESET the invariant says nothing. -/
theorem inv_of_not_resetSeen {s : State} (h : s.resetSeen = false) : Inv s := by
  constructor <;> simp [h]

/-- Between transactions an accepting machine stands at P_TOP. -/
theorem Inv.top_of_accepting {s : State} (h : Inv s) (ha : Accepting s) : s.phase = .top :=
  (h.atBoundary ha.resetSeen).resolve_right ha.notHalted

/-- Between transactions, and before the first RESET, what is fetched is the host's next transaction. -/
theorem fetch_nextTransaction {s : State} (hp : s.resetSeen = true → s.phase = .top ∨ s.phase = .halt) :
    fetch s = s.nextTransaction := by
  cases hr : s.resetSeen with
  | false => simp [fetch, hr]
  | true => rcases hp hr with h | h <;> simp [fetch, hr, h]

theorem fetch_idle {s : State} (hp : s.resetSeen = true → s.phase = .top ∨ s.phase = .halt) (hh : s.host = []) :
    fetch s = .idle := by
  rw [fetch_nextTransaction hp, State.nextTransaction, hh]

theorem fetch_command {s : State} {t : Ports} {rest : List Ports}
    (hp : s.resetSeen = true → s.phase = .top ∨ s.phase = .halt) (hh : s.host = t :: rest) :
    fetch s = .command t rest := by
  rw [fetch_nextTransaction hp, State.nextTransaction, hh]

theorem fetch_frame {s : State} (hr : s.resetSeen = true) (hp : s.phase = .classify) : fetch s = .frame s.rxFrame := by
  simp [fetch, hr, hp]

/-- A step on a presented command is exec of it. -/
theorem step_command {s : State} {t : Ports} {rest : List Ports} {i : Instr} (hm : s.illFormed = false)
    (hp : s.resetSeen = true → s.phase = .top ∨ s.phase = .halt) (hh : s.host = t :: rest)
    (hd : decode (.command t.cmd) = .ok i) : step s = exec i (s.latch t rest) := by
  simp only [step, hm, Bool.false_eq_true, if_false, fetch_command hp hh, hd]

/-- An idle machine performs the one transaction that is presented to it. -/
theorem step_present {s : State} {t : Ports} {i : Instr} (hm : s.illFormed = false)
    (hp : s.resetSeen = true → s.phase = .top ∨ s.phase = .halt) (hh : s.host = [])
    (hd : decode (.command t.cmd) = .ok i) : step (s.present t) = exec i (s.latch t []) := by
  have hh' : (s.present t).host = [t] := by simp [hh]
  exact step_command (s := s.present t) hm hp hh' hd

/-- Encoding a command on the CMD port and decoding it again. -/
theorem decode_withCmd (p : Ports) (i : Instr) (h : decode (encode i) = .ok i) {w : CmdWord}
    (hw : encode i = .command w) : decode (.command (p.withCmd i).cmd) = .ok i := by
  simpa [Ports.withCmd, hw] using h

end Sys2Proof.Machine
end

