-- ==== Sys2Proof/Tests/Slice0.lean ====
section
/-! SUPPORT. Tests: well-formedness, decoding of words written out from the spec, one step of each instruction on the
vectors of 95_test_vectors.md, and a witness for the hypotheses of each statement. -/

namespace Sys2Proof.Tests

open Sys2Proof Sys2Proof.Machine

/-! ### Helpers -/

/-- Look at the next state of an outcome; `d` when there is none. -/
def look {α : Type} (o : Out) (f : State → α) (d : α) : α :=
  match o with
  | .next s => f s
  | .fault _ => d
  | .refused _ => d

/-- The refusal of an outcome. -/
def refusalOf : Out → Option Refusal
  | .refused r => some r
  | .next _ => none
  | .fault _ => none

/-- State.reset with other values on the ports, for the tests' one step. -/
def at' (now : Nat) (stop : Bool) (buf : List Byte) (rx : RxAnswer) (tx : Option TxAnswer) : State :=
  { State.reset with ports := { cmd := 0, now := now, stop := stop, buf := buf, rx := rx, tx := tx } }

/-- The start state of 95_test_vectors.md section 2.7. -/
def four (now : Nat) (stop : Bool) (rx : RxAnswer) (tx : Option TxAnswer) : State :=
  { at' now stop [] rx tx with meas := 4, lastAdv := 4000 }

/-- REQ of 95_test_vectors.md section 2.7. -/
def req : List Byte := [0x01, 0x04, 0x00, 0x00, 0x00, 0x01, 0x31, 0xCA]

/-! ### WellFormed -/

theorem test_wf_refuses_build_2001 : (Instr.build 2001).wf = false := by decide
theorem test_wf_accepts_build_2000 : (Instr.build 2000).wf = true := by decide

/-! ### Decoding (30_encoding.md R55, R57, R61; 95_test_vectors.md 2.4, 2.6) -/

theorem test_decode_reset : decodeCommand 0b00000000000000000000000000000000 = .ok .reset := by decide
theorem test_decode_crcInit : decodeCommand 0b00000000000000000000000000000001 = .ok .crcInit := by decide
theorem test_decode_crcByte : decodeCommand 0b00000000000000000000010000000010 = .ok (.crcByte 0x04) := by decide
theorem test_decode_crcRead : decodeCommand 0b00000000000000000000000000000011 = .ok .crcRead := by decide
theorem test_decode_crc16 : decodeCommand 0b00000000000000000000000000000100 = .ok .crc16 := by decide
theorem test_decode_advance : decodeCommand 0b00000000000000000000000000000101 = .ok .advance := by decide
theorem test_decode_current : decodeCommand 0b00000000000000000000000000000110 = .ok .current := by decide
theorem test_decode_classify : decodeCommand 0b00000000000000000000000000000111 = .ok .classify := by decide
theorem test_decode_build : decodeCommand 0b00000000000001010000000000001000 = .ok (.build 5) := by decide
theorem test_decode_iterate : decodeCommand 0b00000000000000000000000000001001 = .ok .iterate := by decide
theorem test_decode_rdIr0 :
    decodeTableWord 64 0b0000000100000100000000000000000000000000000000010011000111001010 =
      some (.rdIr0 0x0001 0x31 0xCA) := by decide
theorem test_reject_reserved_op : decodeCommand 0x0000000A = .error .reservedOp := by decide
theorem test_reject_rsv : decodeCommand 0x00000011 = .error .reservedBits := by decide
theorem test_reject_crcInit_with_b : decodeCommand 0x00000101 = .error .unusedB := by decide
theorem test_reject_crcByte_with_v : decodeCommand 0x00010002 = .error .unusedV := by decide
theorem test_reject_build_with_b : decodeCommand 0x00000108 = .error .unusedB := by decide
theorem test_reject_iterate_with_v : decodeCommand 0x00010009 = .error .unusedV := by decide
theorem test_reject_frame_start : decodeFrame [0x01, 0x04, 0x00, 0x01, 0x00, 0x01, 0x00, 0x00] = .error .frameStart := by
  decide
theorem test_reject_frame_addr : decodeFrame [0x02, 0x04, 0x00, 0x00, 0x00, 0x01, 0x31, 0xF9] = .error .frameAddr := by
  decide

/-! ### One step of each instruction (95_test_vectors.md) -/

/-- 2.8, the second row. -/
theorem test_reset_recovers :
    look (exec .reset { at' 3000 false [] (.bytes []) none with
        meas := 2, lastAdv := 2600, crcAcc := 0x1234, rxlen := 8, status := .faultTx, phase := .halt })
      (fun s => (s.meas, s.lastAdv, s.crcAcc, s.rxlen, s.status, s.phase)) (1, 1, 1, 1, .stopped, .halt) =
      (0, 3000, 0xFFFF, 0, .run, .top) := by decide

/-- 2.8, the third row. -/
theorem test_current_before_reset : refusalOf (exec .current State.powerOn) = some .beforeReset := by decide

/-- 2.1, the streaming table. -/
theorem test_crcInit_then_byte :
    look (exec .crcInit { State.reset with crcAcc := 0x1234 }) (·.crcAcc) 0 = 0xFFFF := by decide
theorem test_crcByte_01 : look (exec (.crcByte 0x01) State.reset) (·.crcAcc) 0 = 0x807E := by decide
theorem test_crcByte_zero : look (exec (.crcByte 0x00) { State.reset with crcAcc := 0 }) (·.crcAcc) 1 = 0 := by decide
theorem test_crcRead_after_reset :
    look (exec .crcRead State.reset) (·.trace) [] = [.result (.value 0xFFFF)] := by decide

/-- 2.1, the sequence table, with CRC_ACC untouched. -/
theorem test_crc16_keeps_crcAcc :
    look (exec .crc16 { at' 0 false [0x01] (.bytes []) none with crcAcc := 0x1234 })
      (fun s => (s.trace, s.crcAcc)) ([], 0) = ([.result (.value 0x807E)], 0x1234) := by decide
theorem test_crc_catalogue_check :
    crc [0x31, 0x32, 0x33, 0x34, 0x35, 0x36, 0x37, 0x38, 0x39] = 0x4B37 := by decide +kernel

/-- 2.2: the wrap, and a time that goes back. -/
theorem test_advance_wraps :
    look (exec .advance { at' 1000 false [] (.bytes []) none with meas := 2000 })
      (fun s => (s.meas, s.lastAdv)) (1, 1) = (0, 1000) := by decide
theorem test_advance_backwards :
    look (exec .advance { at' 4000 false [] (.bytes []) none with meas := 7, lastAdv := 5000 })
      (fun s => (s.meas, s.lastAdv)) (1, 1) = (7, 5000) := by decide
theorem test_current_2000 :
    look (exec .current { State.reset with meas := 2000 }) (·.trace) [] = [.result (.value 2000)] := by decide

/-- 2.3: a wrong CRC is accepted, nine bytes are not. -/
theorem test_classify_lenient :
    look (exec .classify (at' 0 false [0x01, 0x04, 0x00, 0x00, 0xFF, 0xFF, 0xFF, 0xFF] (.bytes []) none)) (·.trace) [] =
      [.result (.verdict 1)] := by decide
theorem test_classify_nine_bytes :
    look (exec .classify (at' 0 false (req ++ [0x00]) (.bytes []) none)) (·.trace) [] = [.result (.verdict 0)] := by
  decide

/-- 2.5: the largest value and the first one out of range. -/
theorem test_build_2000 :
    look (exec (.build 2000) State.reset) (·.trace) [] =
      [.result (.bytes [0x01, 0x04, 0x02, 0x07, 0xD0, 0xBA, 0x9C])] := by decide +kernel
theorem test_build_2001 : refusalOf (exec (.build 2001) State.reset) = some .buildOutOfRange := by decide

/-- 2.7: the answered request, and the failed read after its advance. -/
theorem test_iterate_answers :
    look (exec .iterate (four 5000 false (.bytes req) (some .ok)))
      (fun s => (s.meas, s.lastAdv, s.wire, s.rxFrame, s.phase)) (0, 0, [], [], .halt) =
      (5, 5000, [0x01, 0x04, 0x02, 0x00, 0x05, 0x79, 0x33], req, .top) := by decide +kernel
theorem test_iterate_read_fault :
    look (exec .iterate (four 5000 false .fail none))
      (fun s => (s.meas, s.lastAdv, s.rxlen, s.status, s.phase)) (0, 0, 1, .run, .top) =
      (5, 5000, 0, .faultRx, .halt) := by decide

/-- RD_IR0 with quantity 10 and a wrong checksum, MEAS = 2 (3.3, line 4). -/
theorem test_rdIr0_answers :
    look (exec (.rdIr0 0x000A 0xFF 0xFF) { State.reset with meas := 2, phase := .classify })
      (fun s => (s.wire, s.phase)) ([], .halt) = ([0x01, 0x04, 0x02, 0x00, 0x02, 0x38, 0xF1], .top) := by decide +kernel

/-! ### step and the table's words -/

theorem test_step_runs_a_command_word :
    look (step (State.reset.withFetchWord 32 0x00000102)) (fun s => (s.crcAcc, s.host)) (0, []) = (0x807E, []) := by
  decide
theorem test_step_runs_a_frame_word :
    look (step (State.reset.withFetchWord 64 0x0104000000000000)) (fun s => (s.wire, s.phase)) ([], .halt) =
      ([0x01, 0x04, 0x02, 0x00, 0x00, 0xB9, 0x30], .top) := by decide +kernel
theorem test_step_refuses_a_reserved_word :
    refusalOf (step (State.reset.withFetchWord 32 0x0000000A)) = some (.reservedCommand .reservedOp) := by decide

/-! ### Witnesses: concrete states and operands that meet the hypotheses of the statements -/

theorem accepting_at (now : Nat) (stop : Bool) (buf : List Byte) (rx : RxAnswer) (tx : Option TxAnswer) :
    Accepting (at' now stop buf rx tx) :=
  ⟨rfl, by simp [at', State.reset], rfl, by simp [at', State.reset]⟩

theorem accepting_four (now : Nat) (stop : Bool) (rx : RxAnswer) (tx : Option TxAnswer) :
    Accepting (four now stop rx tx) :=
  ⟨rfl, by simp [four], rfl, by simp [four, at', State.reset]⟩

/-- A state at P_CLASSIFY with REQ in RXBUF. -/
def classifying (tx : Option TxAnswer) : State :=
  { at' 0 false [] (.bytes []) tx with
    phase := .classify, rxlen := 8, rxbuf := #v[0x01, 0x04, 0x00, 0x00, 0x00, 0x01, 0x31, 0xCA] }

theorem accepting_classifying (tx : Option TxAnswer) : Accepting (classifying tx) :=
  ⟨rfl, by simp [classifying, at', State.reset], rfl, by simp [classifying]⟩

/-- A halted state, with a RESET presented. -/
def halted : State :=
  { State.reset with phase := .halt, status := .faultRx, host := [{ State.reset.ports with now := 7 }] }

/-- CRC_INIT, CRC_BYTE, CRC_INIT, CRC_READ, CRC16, CURRENT, CLASSIFY and BUILD share `Accepting s`. -/
theorem witness_accepting : Accepting State.reset := accepting_at 0 false [] (.bytes []) (some .ok)

theorem witness_StreamingCrcAgreesWithOneShot :
    let p := State.reset.ports
    let prog := p.withCmd .crcInit :: ([0x01].map fun b => p.withCmd (.crcByte b)) ++ p.withCmd .crcRead :: []
    let s := { State.reset with host := prog }
    Accepting s ∧ s.phase = .top ∧ Accepting (at' 0 false [0x01] (.bytes []) none) :=
  ⟨⟨rfl, by simp [State.reset], rfl, by simp [State.reset]⟩, rfl, accepting_at ..⟩

theorem witness_AdvanceIncrementsOncePerElapsedSecond :
    let s := at' 1000 false [] (.bytes []) none
    let u := at' 999 false [] (.bytes []) none
    (Accepting s ∧ timeFits s.cfg s.ports.now = true ∧ (s.cfg.t1s : Int) ≤ (s.ports.now : Int) - (s.lastAdv : Int)) ∧
    (Accepting u ∧ timeFits u.cfg u.ports.now = true ∧ (u.ports.now : Int) - (u.lastAdv : Int) < (u.cfg.t1s : Int)) :=
  ⟨⟨accepting_at .., by decide, by decide⟩, accepting_at .., by decide, by decide⟩

theorem witness_AdvanceRateIsAtMostOnePerSecond :
    State.reset.meas.toNat ≤ 2000 ∧
    ((State.reset.cfg.t1s : Int) ≤ State.reset.elapsed 1000 ∧ ∀ t ∈ [1500, 1999], t < 1000 + State.reset.cfg.t1s) ∧
    (0 < 300 ∧ 300 < State.reset.cfg.t1s ∧ State.reset.cfg.t1s ≤ 4 * 300 ∧ (4 - 1) * 300 < State.reset.cfg.t1s) := by
  decide

theorem witness_MeasurementWrapsAfter2001Advances :
    let p := State.reset.ports
    let prog := ([1000, 2500].map fun t => { p.withCmd .advance with now := t }) ++ []
    let s := { State.reset with host := prog }
    Accepting s ∧ s.phase = .top ∧ spaced s.cfg.t1s s.lastAdv [1000, 2500] = true ∧
      ∀ t ∈ [1000, 2500], timeFits s.cfg t = true :=
  ⟨⟨rfl, by simp [State.reset], rfl, by simp [State.reset]⟩, rfl, by decide, by decide⟩

/-- A list of 2001 times as the wraparound statement wants it. -/
theorem witness_spaced_2001 : ∃ ts : List Nat, ts.length = 2001 ∧ spaced 1000 0 ts = true := by
  have h : ∀ n last, spaced 1000 last ((List.range' (last + 1000) n 1000)) = true := by
    intro n
    induction n with
    | zero => intro last; rfl
    | succ n ih => intro last; simp [List.range', spaced, ih]
  exact ⟨_, by simp, h 2001 0⟩

theorem witness_ClassifyIgnoresQuantityAndChecksum : ([0x01, 0x04, 0x00] : List Byte).length ≠ 8 := by decide

theorem witness_BuildReturnsTheResponseFrame : Accepting State.reset ∧ (2000 : Half).toNat ≤ 2000 :=
  ⟨witness_accepting, by decide⟩

theorem witness_BuildAbove2000IsRefused : Accepting State.reset ∧ 2000 < (2001 : Half).toNat :=
  ⟨witness_accepting, by decide⟩

theorem witness_ResponseFrameShape : (2000 : Half).toNat ≤ 2000 := by decide

theorem witness_BuildIsInjective : (0 : Half) ≠ 2000 := by decide

theorem witness_IterateIsTheCompositionOfThePhases :
    Accepting State.reset ∧ State.reset.phase = .top ∧ (halted.status ≠ .run ∨ halted.phase ≠ .top) :=
  ⟨witness_accepting, rfl, by decide⟩

theorem witness_StopAtTopEndsTheRunCleanly :
    let s := four 5000 true (.bytes []) none
    Accepting s ∧ s.phase = .top ∧ s.ports.stop = true := ⟨accepting_four .., rfl, rfl⟩

theorem witness_ReadFailureHaltsAfterTheAdvance :
    let s := four 5000 false .fail none
    Accepting s ∧ s.phase = .top ∧ s.ports.stop = false ∧ timeFits s.cfg s.ports.now = true ∧ s.ports.rx = .fail :=
  ⟨accepting_four .., rfl, rfl, rfl, rfl⟩

theorem witness_ShortReadIsDropped :
    let s := four 5000 false (.bytes [0x01, 0x04, 0x00, 0x00, 0x00, 0x01, 0x31]) none
    Accepting s ∧ s.phase = .top ∧ s.ports.stop = false ∧ timeFits s.cfg s.ports.now = true ∧
      s.ports.rx = .bytes [0x01, 0x04, 0x00, 0x00, 0x00, 0x01, 0x31] :=
  ⟨accepting_four .., rfl, rfl, rfl, rfl⟩

theorem witness_RejectedFrameIsSilentlyDropped :
    let b : List Byte := [0x02, 0x04, 0x00, 0x00, 0x00, 0x01, 0x31, 0xF9]
    let s := four 5000 false (.bytes b) none
    Accepting s ∧ s.phase = .top ∧ s.ports.stop = false ∧ timeFits s.cfg s.ports.now = true ∧ s.ports.rx = .bytes b ∧
      b.length = 8 ∧ classify b = .rejected :=
  ⟨accepting_four .., rfl, rfl, rfl, rfl, rfl, by decide⟩

theorem witness_AcceptedRequestIsAnswered :
    (let s := four 5000 false (.bytes req) (some .ok)
     Accepting s ∧ s.phase = .top ∧ s.ports.stop = false ∧ timeFits s.cfg s.ports.now = true ∧
       s.ports.rx = .bytes req ∧ s.ports.tx = some .ok ∧ (s.advance s.ports.now).meas = 5) ∧
    (let s := four 5000 false (.bytes req) (some .fail)
     Accepting s ∧ s.phase = .top ∧ s.ports.stop = false ∧ timeFits s.cfg s.ports.now = true ∧
       s.ports.rx = .bytes req ∧ s.ports.tx = some .fail) ∧
    req.length = 8 ∧ classify req = .accepted :=
  ⟨⟨accepting_four .., rfl, rfl, rfl, rfl, rfl, by decide⟩, ⟨accepting_four .., rfl, rfl, rfl, rfl, rfl⟩, rfl, by decide⟩

theorem witness_EndToEndRequestWithMeasurementFive :
    let s := four 5000 false (.bytes [0x01, 0x04, 0x00, 0x00, 0x00, 0x01, 0x31, 0xCA]) (some .ok)
    Accepting s ∧ s.phase = .top ∧ s.ports.stop = false ∧ timeFits s.cfg s.ports.now = true ∧
      s.ports.tx = some .ok ∧ (s.advance s.ports.now).meas = 5 :=
  ⟨accepting_four .., rfl, rfl, rfl, rfl, by decide⟩

/-- The three answers at P_CLASSIFY, and a state at P_TOP. -/
theorem witness_ReadInputRegisterFrameIsAnswered :
    (∀ tx, Accepting (classifying tx) ∧ (classifying tx).phase = .classify ∧ (classifying tx).ports.tx = tx) ∧
    (Accepting State.reset ∧ State.reset.phase ≠ .classify) :=
  ⟨fun _ => ⟨accepting_classifying _, rfl, rfl⟩, witness_accepting, by decide⟩

theorem witness_WriteThatNeverReturnsIsStuck :
    let s := four 5000 false (.bytes req) none
    Accepting s ∧ s.phase = .top ∧ s.ports.stop = false ∧ timeFits s.cfg s.ports.now = true ∧ s.ports.rx = .bytes req ∧
      answers req = true ∧ s.ports.tx = none :=
  ⟨accepting_four .., rfl, rfl, rfl, rfl, by decide, rfl⟩

/-- One state for each clause of the diagram, both ways out where there are two. -/
theorem witness_PhasesFollowTheDiagram :
    (∃ t, phaseStep (four 5000 true (.bytes []) none) = .next t ∧ t.phase = .halt) ∧
    (∃ t, phaseStep (four 5000 false (.bytes []) none) = .next t ∧ t.phase = .adv) ∧
    (∃ t, phaseStep ((four 5000 false (.bytes []) none).goto .adv) = .next t ∧ t.phase = .read) ∧
    (∃ t, phaseStep ((four 5000 false (.bytes []) none).goto .read) = .next t ∧ t.phase = .yield) ∧
    (∃ t, phaseStep ((four 5000 false .fail none).goto .read) = .next t ∧ t.phase = .halt) ∧
    (∃ t, phaseStep (classifying none) = .next t ∧ t.phase = .build) ∧
    (∃ t, phaseStep ((four 5000 false (.bytes []) none).goto .classify) = .next t ∧ t.phase = .yield) ∧
    (∃ t, phaseStep ((four 5000 false (.bytes []) (some .fail)).goto .write) = .next t ∧ t.phase = .halt) ∧
    (∃ t, phaseStep ((four 5000 false (.bytes []) (some .ok)).goto .write) = .next t ∧ t.phase = .yield) :=
  ⟨⟨_, rfl, rfl⟩, ⟨_, rfl, rfl⟩, ⟨_, rfl, rfl⟩, ⟨_, rfl, rfl⟩, ⟨_, rfl, rfl⟩, ⟨_, rfl, by decide⟩, ⟨_, rfl, by decide⟩,
    ⟨_, rfl, rfl⟩, ⟨_, rfl, rfl⟩⟩

theorem witness_YieldChangesNoRegister : (State.reset.goto .yield).phase = .yield := rfl

theorem witness_IterationDoesEachThingAtMostOnce :
    (∃ t, exec .iterate (four 5000 true (.bytes []) none) = .next t) ∧
    (∃ t, exec .iterate (four 5000 false (.bytes []) none) = .next t) := ⟨⟨_, rfl⟩, ⟨_, rfl⟩⟩

/-- An iteration that fires MON, with its list of events. -/
theorem witness_MonFiresExactlyAfterASuccessfulWrite :
    ∃ t es, exec .iterate (four 5000 false (.bytes req) (some .ok)) = .next t ∧
      t.trace = (four 5000 false (.bytes req) (some .ok)).trace ++ es ∧ Event.mon req t.txbuf.toList ∈ es :=
  ⟨_, _, rfl, rfl, by simp [req, State.rxFrame, State.txFrame, State.loadRx, State.byteOr, State.goto, State.emit,
    State.loadTx, State.deliver]⟩

/-- An endless sequence of inputs: one accepted request each second, and the same with a stop at the
third iteration. -/
theorem witness_RunIsInfiniteOrEndsByStopOrFatal :
    let ins : Nat → Ports := fun n => (at' (1000 * n) false [] (.bytes req) (some .ok)).ports
    let ins' : Nat → Ports := fun n => (at' (1000 * n) (n == 2) [] (.bytes req) (some .ok)).ports
    Accepting State.reset ∧ State.reset.phase = .top ∧ State.reset.host = [] ∧
    (∀ n, LoopInput State.reset.cfg (ins n) ∧ (ins n).stop = false ∧ (ins n).rx ≠ .fail ∧ (ins n).tx = some .ok) ∧
    (∀ n, LoopInput State.reset.cfg (ins' n)) :=
  ⟨witness_accepting, rfl, rfl,
    fun _ => ⟨⟨rfl, fun _ h => by cases h; decide, by simp [at']⟩, rfl, by simp [at'], rfl⟩,
    fun _ => ⟨rfl, fun _ h => by cases h; decide, by simp [at']⟩⟩

/-- A run that ends: a stop at its first iteration. -/
theorem test_run_ends_by_stop :
    look (runOn [(at' 0 true [] (.bytes []) (some .ok)).ports.withCmd .iterate] State.reset)
      (fun s => (s.status, s.phase)) (.run, .top) = (.stopped, .halt) := by decide

theorem witness_ResetGivesEveryRegisterItsValue :
    ((halted.resetSeen = true → halted.meas.toNat ≤ 2000) ∧ timeFits halted.cfg halted.ports.now = true) ∧
    (State.powerOn.resetSeen = true → State.powerOn.meas.toNat ≤ 2000) := by decide

theorem witness_HaltedMachineRefusesAllButReset :
    Instr.current ≠ .reset ∧ (halted.phase = .halt ∨ halted.status ≠ .run) := by decide

theorem witness_OnlyResetLeavesHalt :
    halted.phase = .halt ∧ ∃ t, step halted = .next t ∧ t.phase = .top := ⟨rfl, _, rfl, rfl⟩

/-- A machine before its first RESET whose PHASE happens to be P_READ, with one command presented. -/
def unreset (cmd : CmdWord) : State :=
  { State.powerOn with phase := .read, host := [{ initialPorts with cmd := cmd, now := 7 }] }

theorem witness_OnlyResetStartsARun :
    ((unreset 6).resetSeen = false ∧ decode (.command 6) = .ok .current ∧ Instr.current ≠ .reset) ∧
    ((unreset 0).resetSeen = false ∧ decode (.command 0) = .ok .reset ∧ timeFits (unreset 0).cfg 7 = true) := by decide

/-- 2.8: a RESET starts the run whatever PHASE held; any other first command is refused. -/
theorem test_reset_in_any_phase :
    look (step (unreset 0)) (fun s => (s.resetSeen, s.phase, s.lastAdv)) (false, .halt, 0) = (true, .top, 7) := by decide
theorem test_first_command_in_any_phase : refusalOf (step (unreset 6)) = some .beforeReset := by decide

theorem witness_IllFormedMeasHasNoStep :
    let s := { State.reset with meas := 2001 }
    s.resetSeen = true ∧ 2000 < s.meas.toNat := by decide

/-- TIME_W = 4 does not hold 16 ticks, and holds 15; RESET in P_HALT and before the first RESET. -/
theorem witness_WrappingTimeIsRefused :
    let c := { State.reset.cfg with timeW := some 4 }
    let s := { at' 16 false [] (.bytes []) none with cfg := c }
    (∀ u ∈ [s.raiseFatal .faultRx, { s with resetSeen := false }],
      (u.resetSeen = true → u.meas.toNat ≤ 2000) ∧ timeFits u.cfg u.ports.now = false) ∧ Accepting s ∧ timeFits s.cfg s.ports.now = false ∧ s.phase = .top ∧ s.ports.stop = false ∧ timeFits c 15 = true :=
  ⟨by decide, ⟨rfl, by simp [at', State.reset], rfl, by simp [at', State.reset]⟩, rfl, rfl, rfl, rfl⟩

theorem inv_reset : Inv State.reset := ⟨by decide, by decide, by decide, by decide⟩

/-- Adding to the host's list keeps the invariant: none of its clauses reads the list. -/
theorem inv_with_host (h : List Ports) : Inv { State.reset with host := h } :=
  ⟨inv_reset.1, inv_reset.2, inv_reset.3, inv_reset.4⟩

theorem witness_ReservedCommandWordsAreRefused :
    Inv { State.reset with host := [{ State.reset.ports with cmd := 0x0000000A }] } ∧
      decode (.command 0x0000000A) = .error .reservedOp := ⟨inv_with_host _, by decide⟩

theorem witness_DecoderAgreesWithTheOpcodeTable : decode (.command 0x07D00008) = .ok (.build 2000) := by decide

theorem witness_EncodeOfDecodeIsTheWord : decode (.frame req) = .ok (.rdIr0 0x0001 0x31 0xCA) := by decide

theorem witness_FrameDecoderAgreesWithClassifier : classify req = .accepted := by decide

theorem witness_StepPerformsTheDecodedCommand :
    Inv { State.reset with host := [{ State.reset.ports with cmd := 0x00000006 }] } ∧
      decode (.command 0x00000006) = .ok .current ∧ Inv State.reset ∧ State.reset.host = [] :=
  ⟨inv_with_host _, by decide, inv_reset, rfl⟩

theorem witness_StepRunsTheDecodedFrame :
    (Accepting (classifying (some .ok)) ∧ (classifying (some .ok)).phase = .classify ∧
      decode (.frame (classifying (some .ok)).rxbuf.toList) = .ok (.rdIr0 0x0001 0x31 0xCA)) ∧
    (let s := four 5000 false (.bytes req) (some .ok)
     Accepting s ∧ s.phase = .top ∧ s.ports.stop = false ∧ timeFits s.cfg s.ports.now = true ∧
       s.ports.rx = .bytes req ∧ decode (.frame req) = .ok (.rdIr0 0x0001 0x31 0xCA)) :=
  ⟨⟨accepting_classifying _, rfl, by decide⟩, accepting_four .., rfl, rfl, rfl, rfl, by decide⟩

/-- A step that changes the state, from a state that meets the invariant: CRC_BYTE 0x01. -/
theorem witness_EveryStepKeepsTheInvariant :
    Inv { State.reset with host := [{ State.reset.ports with cmd := 0x00000102 }] } ∧
      ∃ t, step { State.reset with host := [{ State.reset.ports with cmd := 0x00000102 }] } = .next t :=
  ⟨inv_with_host _, _, rfl⟩

theorem witness_ParametersStayAndOutputsOnlyGrow :
    ∃ t, step { State.reset with host := [{ State.reset.ports with cmd := 0x00000003 }] } = .next t ∧
      t.trace ≠ State.reset.trace := ⟨_, rfl, by decide⟩

/-- Instructions that change what the four writer statements speak of. -/
theorem witness_writers :
    (∃ t, exec .advance (at' 1000 false [] (.bytes []) none) = .next t ∧ t.meas ≠ (0 : BitVec 11)) ∧
    (∃ t, exec (.crcByte 0x01) State.reset = .next t ∧ t.crcAcc ≠ State.reset.crcAcc) ∧
    (∃ t, exec .iterate (four 5000 false (.bytes req) (some .fail)) = .next t ∧
      t.status ≠ (Status.run) ∧ t.rxlen ≠ (0 : BitVec 4)) ∧
    (∃ t, exec (.rdIr0 0 0 0) (classifying (some .ok)) = .next t ∧ t.txFrame ≠ (classifying (some .ok)).txFrame) :=
  ⟨⟨_, rfl, by decide⟩, ⟨_, rfl, by decide⟩, ⟨_, rfl, by decide, by decide⟩, ⟨_, rfl, by decide +kernel⟩⟩

theorem witness_LastAdvIsHidden :
    let s := at' 1500 false [] (.bytes []) none
    s.lastAdv ≠ 500 ∧
      ((s.cfg.t1s : Int) ≤ (s.ports.now : Int) - (s.lastAdv : Int) ↔
        (s.cfg.t1s : Int) ≤ (s.ports.now : Int) - ((500 : Nat) : Int)) := by decide

theorem witness_EveryQuantityIsAnsweredWithOneRegister :
    let b : List Byte := [0x01, 0x04, 0x00, 0x00, 0xFF, 0xFF, 0xFF, 0xFF]
    let s := four 5000 false (.bytes b) (some .ok)
    (Accepting s ∧ s.phase = .top ∧ s.ports.stop = false ∧ timeFits s.cfg s.ports.now = true ∧ s.ports.rx = .bytes b ∧
      s.ports.tx = some .ok) ∧ answers b = true ∧ answers req = true :=
  ⟨⟨accepting_four .., rfl, rfl, rfl, rfl, rfl⟩, by decide, by decide⟩

theorem witness_OnlyRegisterZeroIsImplemented :
    ((classifying none).rxbuf[0] = 0x01 ∧ (classifying none).rxbuf[1] = 0x04) ∧
      State.reset.inputRegister 0x0000 = some 0 ∧ State.reset.inputRegister 0x0001 = none := by decide

end Sys2Proof.Tests
end

/-! PROOFS. The Modbus input-register space (20_memory.md): an answered request, and what its quantity does not change
(R31). -/

namespace Sys2Proof.Machine

/-! ### A 16-bit value and its two bytes -/

/-- A value is put together again from its two bytes, high byte first (R100). -/
theorem hiByte_mul_add_loByte (v : Half) : (hiByte v).toNat * 256 + (loByte v).toNat = v.toNat := by
  have hv : v.toNat < 65536 := v.isLt
  simp only [hiByte, loByte, BitVec.extractLsb'_toNat, Nat.shiftRight_eq_div_pow]
  omega

/-! ### ITERATE by its ways out of P_TOP and P_ADV -/

theorem execIterate_of_not_top {s : State} (ha : Accepting s) (ht : s.phase ≠ .top) :
    execIterate s = .refused .notAtTop := by
  rw [execIterate, perform_of_accepting ha, if_neg ht]

theorem execIterate_stop {s : State} (ha : Accepting s) (ht : s.phase = .top) (hs : s.ports.stop = true) :
    execIterate s = .next ((s.setStatus .stopped).goto .halt) := by
  rw [execIterate, perform_of_accepting ha, if_pos ht, phaseStep_top ht, phaseTop, if_pos hs, andThen_next,
    runPhases_boundary (by simp)]

theorem execIterate_timeWrap {s : State} (ha : Accepting s) (ht : s.phase = .top) (hs : s.ports.stop = false)
    (hf : timeFits s.cfg s.ports.now = false) : execIterate s = .refused .timeWrap := by
  rw [execIterate, perform_of_accepting ha, if_pos ht, phaseStep_top ht]
  simp only [phaseTop, hs, Bool.false_eq_true, if_false, andThen_next]
  rw [runPhases_inside (by simp) (by simp), phaseStep_adv (by simp)]
  simp [phaseAdv, hf]

/-! ### PHASE moved before another update is PHASE moved after it -/

theorem goto_emit (s : State) (p : Phase) (e : Event) : (s.goto p).emit e = (s.emit e).goto p := rfl
theorem goto_loadRx (s : State) (p : Phase) (b : List Byte) : (s.goto p).loadRx b = (s.loadRx b).goto p := rfl
theorem goto_loadTx (s : State) (p : Phase) (f : Vector Byte 7) : (s.goto p).loadTx f = (s.loadTx f).goto p := rfl
theorem goto_goto (s : State) (p q : Phase) : (s.goto p).goto q = s.goto q := rfl

/-! ### ITERATE that reads an Accepted request -/

/-- The state in which an iteration from P_TOP that has read the Accepted request b enters P_WRITE (R112 to R115). -/
def State.writing (s : State) (b : List Byte) : State :=
  ((((s.advance s.ports.now).emit (.chanRead 8 s.cfg.readTimeout)).loadRx b).loadTx
    (build (s.advance s.ports.now).measValue)).goto .write

@[simp] theorem State.writing_meas (s : State) (b : List Byte) :
    (s.writing b).meas = (s.advance s.ports.now).meas := by simp [State.writing]
@[simp] theorem State.writing_ports (s : State) (b : List Byte) : (s.writing b).ports = s.ports := by
  simp [State.writing]
@[simp] theorem State.writing_wire (s : State) (b : List Byte) : (s.writing b).wire = s.wire := by
  simp [State.writing]
@[simp] theorem State.writing_txFrame (s : State) (b : List Byte) :
    (s.writing b).txFrame = (build (s.advance s.ports.now).measValue).toList := by simp [State.writing]

/-- An Accepted request is 8 bytes. -/
theorem length_of_answers {b : List Byte} (hb : answers b = true) : b.length = 8 := by
  obtain ⟨_, _, _, _, rfl⟩ := (classify_eq_accepted_iff b).1 ((answers_iff b).1 hb)
  rfl

/-- An iteration that reads an Accepted request comes to P_WRITE, and ends as the TX answer says. -/
theorem execIterate_answers {s : State} {b : List Byte} (ha : Accepting s) (ht : s.phase = .top)
    (hs : s.ports.stop = false) (hf : timeFits s.cfg s.ports.now = true) (hr : s.ports.rx = .bytes b)
    (hb : answers b = true) : execIterate s = andThen (phaseWrite (s.writing b)) (runPhases 1) := by
  have hl := length_of_answers hb
  rw [execIterate_runs ha ht hs hf, goto_advance_goto, phaseRead_full (by simpa using hr) hl, andThen_next,
    runPhases_classify_accepted (State.goto_phase _ _) (by rwa [State.rxFrame_goto, rxFrame_loadRx hl, ← answers_iff]),
    runPhases_build (State.goto_phase _ _)]
  simp only [goto_emit, goto_loadRx, goto_loadTx, goto_goto, State.goto_cfg, State.advance_cfg, State.measValue_goto,
    State.measValue_loadRx, State.measValue_emit, State.writing, Nat.zero_add]

/-- The answered write: all 7 bytes reach the master, MON fires, and the iteration ends at P_TOP (R116, R117, R121). -/
theorem runPhases_phaseWrite_ok {s : State} (h : s.ports.tx = some .ok) :
    andThen (phaseWrite s) (runPhases 1) =
      .next (((((s.emit (.chanWrite s.txFrame)).deliver 7 0).emit (.mon s.rxFrame s.txFrame)).emit
        (.pause s.cfg.yieldTime)).goto .top) := by
  rw [phaseWrite_ok h, andThen_next, runPhases_yield (State.goto_phase _ _)]
  rfl

/-- The failed write: some first bytes reach the master, and the run ends in P_HALT (R116, R132, D16). -/
theorem runPhases_phaseWrite_fail {s : State} (h : s.ports.tx = some .fail) :
    andThen (phaseWrite s) (runPhases 1) =
      .next (((s.emit (.chanWrite s.txFrame)).deliver (Config.freeCount s.draws % 8) 1).raiseFatal .faultTx) := by
  rw [phaseWrite_fail h, andThen_next]
  exact runPhases_boundary (by simp) 1

/-- The answer to an Accepted request: one response frame with MEAS as the iteration's ADVANCE left it (R115, R41). -/
theorem execIterate_answered {s : State} {b : List Byte} (ha : Accepting s) (ht : s.phase = .top)
    (hs : s.ports.stop = false) (hf : timeFits s.cfg s.ports.now = true) (hr : s.ports.rx = .bytes b)
    (hb : answers b = true) (htx : s.ports.tx = some .ok) :
    ∃ t, execIterate s = .next t ∧ t.wire = s.wire ++ (build (s.advance s.ports.now).measValue).toList ∧
      t.meas = (s.advance s.ports.now).meas := by
  rw [execIterate_answers ha ht hs hf hr hb, runPhases_phaseWrite_ok (by rwa [State.writing_ports])]
  exact ⟨_, rfl, by simp [State.deliver, List.take_of_length_le], by simp⟩

/-! ### The same state with another RX answer -/

/-- `s` with the RX answer r on its port. -/
def State.withRx (s : State) (r : RxAnswer) : State := { s with ports := { s.ports with rx := r } }

/-- ADVANCE does not look at the RX answer. -/
theorem advance_withRx (s : State) (r : RxAnswer) (now : Nat) :
    (s.withRx r).advance now = (s.advance now).withRx r := by
  rcases advance_cases s now with ⟨h, e⟩ | ⟨h, e⟩
  · rw [e, State.advance_of_elapsed (s := s.withRx r) h]; rfl
  · rw [e, State.advance_of_not_elapsed (s := s.withRx r) h]

theorem accepting_withRx_iff (s : State) (r : RxAnswer) : Accepting (s.withRx r) ↔ Accepting s :=
  ⟨fun h => ⟨h.resetSeen, h.measLegal, h.running, h.notHalted⟩,
    fun h => ⟨h.resetSeen, h.measLegal, h.running, h.notHalted⟩⟩

/-! ### What the request read does not change -/

/-- Whatever the write answers, two requests that were read leave the same outcome but for themselves (R31). -/
theorem forgetRequest_phaseWrite (s : State) {b b' : List Byte} (hl : b.length = b'.length) :
    mapOut forgetRequest (andThen (phaseWrite ((s.withRx (.bytes b)).writing b)) (runPhases 1)) =
      mapOut forgetRequest (andThen (phaseWrite ((s.withRx (.bytes b')).writing b')) (runPhases 1)) := by
  have htx (c) : ((s.withRx (.bytes c)).writing c).ports.tx = s.ports.tx := by rw [State.writing_ports]; rfl
  cases h : s.ports.tx with
  | none => rw [phaseWrite_none ((htx b).trans h), phaseWrite_none ((htx b').trans h)]
  | some a =>
    cases a with
    | ok =>
      rw [runPhases_phaseWrite_ok ((htx b).trans h), runPhases_phaseWrite_ok ((htx b').trans h)]
      simp only [mapOut, andThen_next, State.writing, advance_withRx]
      simp [forgetRequest, State.withRx, State.measValue, hl]
    | fail =>
      rw [runPhases_phaseWrite_fail ((htx b).trans h), runPhases_phaseWrite_fail ((htx b').trans h)]
      simp only [mapOut, andThen_next, State.writing, advance_withRx]
      simp [forgetRequest, State.withRx, State.measValue, hl]

/-- Two Accepted requests have one outcome but for themselves, in every state (R31, R91). -/
theorem forgetRequest_execIterate (s : State) {b b' : List Byte} (hb : answers b = true) (hb' : answers b' = true) :
    mapOut forgetRequest (execIterate (s.withRx (.bytes b))) =
      mapOut forgetRequest (execIterate (s.withRx (.bytes b'))) := by
  by_cases ha : Accepting s
  · have hw (c) : Accepting (s.withRx (.bytes c)) := (accepting_withRx_iff s _).2 ha
    by_cases ht : s.phase = .top
    · cases hs : s.ports.stop with
      | true => rw [execIterate_stop (hw b) ht hs, execIterate_stop (hw b') ht hs]; rfl
      | false =>
        cases hf : timeFits s.cfg s.ports.now with
        | false => rw [execIterate_timeWrap (hw b) ht hs hf, execIterate_timeWrap (hw b') ht hs hf]
        | true =>
          rw [execIterate_answers (hw b) ht hs hf rfl hb, execIterate_answers (hw b') ht hs hf rfl hb']
          exact forgetRequest_phaseWrite s ((length_of_answers hb).trans (length_of_answers hb').symm)
    · rw [execIterate_of_not_top (hw b) ht, execIterate_of_not_top (hw b') ht]
  · have hr : (s.withRx (.bytes b)).refusal = (s.withRx (.bytes b')).refusal := refusal_congr rfl rfl rfl rfl
    obtain ⟨r, h⟩ := Option.ne_none_iff_exists'.1
      (mt (refusal_eq_none_iff _).1 (mt (accepting_withRx_iff s (.bytes b)).1 ha))
    simp only [execIterate, State.perform, h, ← hr]

/-- Settles O57: `execIterate_answered` gives the first clause byte by byte, `forgetRequest_execIterate` is the second. -/
theorem everyQuantityIsAnsweredWithOneRegister : Obligations.EveryQuantityIsAnsweredWithOneRegister := by
  refine ⟨fun s b ha ht hs hf hr hb htx => ?_, fun s b b' hb hb' => forgetRequest_execIterate s hb hb'⟩
  obtain ⟨t, he, hw, hm⟩ := execIterate_answered ha ht hs hf hr hb htx
  rw [build_toList] at hw
  refine ⟨t, _, _, _, _, he, hw, ?_, hm⟩
  rw [hiByte_mul_add_loByte, hm]
  exact (ha.advance s.ports.now).legal_measValue.1

end Sys2Proof.Machine

/-! PROOFS. The checksum unit (40_checksum.md): the bitwise algorithm, and the four commands in a state that accepts
them. -/

namespace Sys2Proof.Machine

/-! ### The bitwise algorithm -/

/-- The bit CrcStep tests is the parity of the number. -/
theorem getLsbD_zero_eq_true_iff (a : Half) : a.getLsbD 0 = true ↔ a.toNat % 2 = 1 := by
  rw [BitVec.getLsbD, Nat.testBit_zero, decide_eq_true_iff]

/-- CrcStep on numbers: the shift halves, and the XOR follows it exactly when the bit shifted out is 1 (R70). -/
theorem crcStep_toNat (a : Half) :
    (crcStep a).toNat = if a.toNat % 2 = 1 then (a.toNat / 2) ^^^ 0xA001 else a.toNat / 2 := by
  have hshift : (a >>> 1).toNat = a.toNat / 2 := by
    rw [BitVec.toNat_ushiftRight, Nat.shiftRight_eq_div_pow, pow_one]
  by_cases hodd : a.toNat % 2 = 1
  · rw [crcStep, if_pos ((getLsbD_zero_eq_true_iff a).2 hodd), if_pos hodd, BitVec.toNat_xor, hshift]
    rfl
  · rw [crcStep, if_neg (mt (getLsbD_zero_eq_true_iff a).1 hodd), if_neg hodd, hshift]

/-- The model's repetition is Mathlib's iterate. -/
theorem natRepeat_eq_iterate {α : Type} (f : α → α) (n : Nat) (a : α) : Nat.repeat f n a = f^[n] a := by
  induction n with
  | zero => rfl
  | succ n ih => rw [Nat.repeat, ih, Function.iterate_succ_apply']

/-- CrcByte is the byte's XOR and eight steps (R71). -/
theorem crcByte_eq_iterate (a : Half) (b : Byte) :
    crcByte a b = crcStep^[8] (a ^^^ BitVec.ofNat 16 b.toNat) := by
  rw [crcByte, natRepeat_eq_iterate, BitVec.ofNat_toNat]

/-- One byte more is one CrcByte more (R71). -/
theorem crc_append_singleton (s : List Byte) (b : Byte) : crc (s ++ [b]) = crcByte (crc s) b :=
  crc_append s [b]

/-- A zero accumulator stays zero under a zero byte (R74). -/
theorem crcByte_zero_zero : crcByte 0x0000 0x00 = 0x0000 := by decide

/-- The wire form on numbers, low byte first (R72). -/
theorem crcBytes_toList (c : Half) :
    (crcBytes c).toList = [BitVec.ofNat 8 (c.toNat % 256), BitVec.ofNat 8 (c.toNat / 256)] := by
  have hlo : loByte c = BitVec.ofNat 8 (c.toNat % 256) := by
    apply BitVec.eq_of_toNat_eq
    simp [loByte]
  have hhi : hiByte c = BitVec.ofNat 8 (c.toNat / 256) := by
    apply BitVec.eq_of_toNat_eq
    simp [hiByte, Nat.shiftRight_eq_div_pow]
  rw [← hlo, ← hhi]
  rfl

/-! ### The command words -/

/-- CRC_BYTE b is the word 0x0000bb02 (R74). -/
theorem encode_crcByte (b : Byte) : encode (.crcByte b) = .command (BitVec.ofNat 32 (b.toNat * 256 + 2)) := by
  have hb := b.isLt
  have hword : commandWord 0 b 0x2 = BitVec.ofNat 32 (b.toNat * 256 + 2) := by
    apply BitVec.eq_of_toNat_eq
    rw [commandWord_toNat, BitVec.toNat_ofNat, Nat.mod_eq_of_lt (by omega)]
    simp
  rw [encode, hword]

/-! ### The four commands in a state that accepts commands -/

theorem exec_crcInit {s : State} (h : Accepting s) : exec .crcInit s = .next (s.setCrcAcc 0xFFFF) :=
  perform_of_accepting h _

theorem exec_crcByte {s : State} (h : Accepting s) (b : Byte) :
    exec (.crcByte b) s = .next (s.setCrcAcc (crcByte s.crcAcc b)) :=
  perform_of_accepting h _

theorem exec_crcRead {s : State} (h : Accepting s) : exec .crcRead s = .next (s.putResult (.value s.crcAcc)) :=
  perform_of_accepting h _

theorem exec_crc16 {s : State} (h : Accepting s) : exec .crc16 s = .next (s.putResult (.value (crc s.ports.buf))) :=
  perform_of_accepting h _

/-! ### The statements -/

/-- Settles O1: `crcStep_toNat` is R70, the other three clauses are R71. -/
theorem crcFollowsTheBitwiseAlgorithm : Obligations.CrcFollowsTheBitwiseAlgorithm :=
  ⟨crcStep_toNat, crcByte_eq_iterate, crc_nil, crc_append_singleton⟩

/-- Settles O2: `State.setCrcAcc` is the update of CRC_ACC alone. -/
theorem crcInitLoadsTheInitialValue : Obligations.CrcInitLoadsTheInitialValue :=
  ⟨rfl, fun _ => exec_crcInit⟩

/-- Settles O3: every byte by `encode_crcByte` and `exec_crcByte`; the zero corner case by evaluation. -/
theorem crcByteFoldsOneByteIntoCrcAcc : Obligations.CrcByteFoldsOneByteIntoCrcAcc :=
  ⟨encode_crcByte, fun b _ h => exec_crcByte h b, crcByte_zero_zero⟩

/-- Settles O4: `State.putResult` appends the RESULT event and changes no register. -/
theorem crcReadReturnsCrcAcc : Obligations.CrcReadReturnsCrcAcc :=
  ⟨rfl, fun _ => exec_crcRead, crcBytes_toList⟩

/-- Settles O5: `State.putResult` appends the RESULT event and changes no register. -/
theorem crc16ReturnsTheChecksumOfBuf : Obligations.Crc16ReturnsTheChecksumOfBuf :=
  ⟨rfl, fun _ => exec_crc16, crc_nil⟩

end Sys2Proof.Machine

/-! PROOFS. The device state (41_device_state.md): ADVANCE and CURRENT in a state that accepts commands. -/

namespace Sys2Proof.Machine

/-! ### The two commands in a state that accepts commands -/

/-- ADVANCE under a NOW that the time counter holds is `State.advance` at NOW (R80, D3). -/
theorem exec_advance {s : State} (h : Accepting s) (hf : timeFits s.cfg s.ports.now = true) :
    exec .advance s = .next (s.advance s.ports.now) := by
  rw [exec, execAdvance, perform_of_accepting h, if_pos hf]

theorem exec_current {s : State} (h : Accepting s) : exec .current s = .next (s.putResult (.value s.measValue)) :=
  perform_of_accepting h _

/-! ### The statements -/

/-- Settles O9: the two clauses are the two branches of `State.advance`, split where T1S ticks have elapsed. -/
theorem advanceIncrementsOncePerElapsedSecond : Obligations.AdvanceIncrementsOncePerElapsedSecond := by
  refine ⟨rfl, fun s h hf helapsed => ?_, fun s h hf hearly => ?_⟩
  · rw [exec_advance h hf, State.advance_of_elapsed helapsed]
    rfl
  · rw [exec_advance h hf, State.advance_of_not_elapsed (Int.not_le.2 hearly)]

/-- Settles O12: the value is MEAS zero-extended, in range by `Accepting.legal_measValue`; `State.putResult` appends the
RESULT event and changes no register. -/
theorem currentReturnsMeasWithoutMutation : Obligations.CurrentReturnsMeasWithoutMutation :=
  ⟨rfl, fun s h => ⟨s.measValue, exec_current h, h.legal_measValue⟩⟩

end Sys2Proof.Machine

/-! PROOFS. The validator (42_validator.md): what CLASSIFY inspects, and the command in a state that accepts it. -/

namespace Sys2Proof.Machine

/-! ### What the classifier inspects -/

/-- The five conditions of R90, by position. -/
theorem classify_eq_accepted_iff_getElem? (buf : List Byte) :
    classify buf = .accepted ↔ buf.length = 8 ∧ buf[0]? = some 0x01 ∧ buf[1]? = some 0x04 ∧
      buf[2]? = some 0x00 ∧ buf[3]? = some 0x00 := by
  rw [classify_eq_accepted_iff]
  constructor
  · rintro ⟨e, f, g, h, rfl⟩
    exact ⟨rfl, rfl, rfl, rfl, rfl⟩
  · rintro ⟨hlen, h0, h1, h2, h3⟩
    match buf, hlen with
    | [a, b, c, d, e, f, g, h], _ =>
      cases h0
      cases h1
      cases h2
      cases h3
      exact ⟨e, f, g, h, rfl⟩

/-- The classifier looks at the length and the first four bytes only (R91). -/
theorem classify_congr {buf buf' : List Byte} (hlen : buf.length = buf'.length) (htake : buf.take 4 = buf'.take 4) :
    classify buf = classify buf' := by
  have hbyte {i : Nat} (hi : i < 4) : buf[i]? = buf'[i]? := by
    rw [← List.getElem?_take_of_lt hi, htake, List.getElem?_take_of_lt hi]
  rw [classify, classify, hlen, hbyte (i := 0) (by decide), hbyte (i := 1) (by decide), hbyte (i := 2) (by decide),
    hbyte (i := 3) (by decide)]

/-- The first check, of the length, decides alone when it fails (R92). -/
theorem classify_of_length_ne {buf : List Byte} (h : buf.length ≠ 8) : classify buf = .rejected :=
  if_pos h

/-! ### The command in a state that accepts commands -/

theorem Verdict.bit_eq_one_iff (v : Verdict) : v.bit = 1 ↔ v = .accepted := by
  cases v <;> decide

theorem exec_classify {s : State} (h : Accepting s) :
    exec .classify s = .next (s.putResult (.verdict (classify s.ports.buf).bit)) :=
  perform_of_accepting h _

/-! ### The statements -/

/-- Settles O13: the bit is 1 exactly for an Accepted buffer, `classify_eq_accepted_iff_getElem?` says which those are;
`State.putResult` appends the RESULT event and changes no register. -/
theorem classifyReturnsTheFrameClass : Obligations.ClassifyReturnsTheFrameClass :=
  ⟨rfl, fun s h => ⟨(classify s.ports.buf).bit, exec_classify h,
    (Verdict.bit_eq_one_iff _).trans (classify_eq_accepted_iff_getElem? _)⟩⟩

/-- Settles O14: `classify_congr` for buffers that differ after byte 3, `classify_of_length_ne` for another length. -/
theorem classifyIgnoresQuantityAndChecksum : Obligations.ClassifyIgnoresQuantityAndChecksum :=
  ⟨fun _ _ _ _ _ _ _ _ _ _ _ _ => classify_congr rfl rfl,
    fun e f g h => (classify_eq_accepted_iff _).2 ⟨e, f, g, h, rfl⟩,
    fun _ => classify_of_length_ne⟩

end Sys2Proof.Machine

/-! PROOFS. The response builder (43_builder.md): the response frame, and BUILD in a state that accepts it. -/

namespace Sys2Proof.Machine

/-! ### The two bytes of a value, as numbers -/

theorem hiByte_eq_ofNat (v : Half) : hiByte v = BitVec.ofNat 8 (v.toNat / 256) := by
  apply BitVec.eq_of_toNat_eq
  simp [hiByte, Nat.shiftRight_eq_div_pow]

theorem loByte_eq_ofNat (v : Half) : loByte v = BitVec.ofNat 8 (v.toNat % 256) := by
  apply BitVec.eq_of_toNat_eq
  simp [loByte]

/-! ### The command word -/

/-- BUILD v is the word 0xvvvv0008 (R58, R100). -/
theorem encode_build (v : Half) : encode (.build v) = .command (BitVec.ofNat 32 (v.toNat * 65536 + 8)) := by
  have hv := v.isLt
  have hword : commandWord v 0 0x8 = BitVec.ofNat 32 (v.toNat * 65536 + 8) := by
    apply BitVec.eq_of_toNat_eq
    rw [commandWord_toNat, BitVec.toNat_ofNat, Nat.mod_eq_of_lt (by omega)]
    simp
  rw [encode, hword]

/-! ### The command in a state that accepts commands -/

/-- BUILD answers the response frame for a value in range (R100, R103). -/
theorem exec_build {s : State} (h : Accepting s) {v : Half} (hv : v.toNat ≤ 2000) :
    exec (.build v) s = .next (s.putResult (.bytes (build v).toList)) := by
  rw [exec, execBuild, perform_of_accepting h, if_pos hv]

/-! ### The statements -/

/-- Settles O17: the frame is `build_toList`, its value bytes as numbers by `hiByte_eq_ofNat` and `loByte_eq_ofNat`;
`State.putResult` appends the RESULT event and changes no register. -/
theorem buildReturnsTheResponseFrame : Obligations.BuildReturnsTheResponseFrame := by
  refine ⟨encode_build, fun v s h hv => ?_⟩
  rw [exec_build h hv, build_toList, hiByte_eq_ofNat v, loByte_eq_ofNat v]
  rfl

end Sys2Proof.Machine

/-! PROOFS. The loop (44_loop.md): what each phase that answers a next state did, and where it leads. -/

namespace Sys2Proof.Machine

/-! ### The phases with two or three ways out -/

theorem phaseTop_cases {s t : State} (h : phaseTop s = .next t) :
    (s.ports.stop = true ∧ t = (s.setStatus .stopped).goto .halt) ∨ (s.ports.stop = false ∧ t = s.goto .adv) := by
  cases hs : s.ports.stop with
  | true =>
    rw [phaseTop, if_pos hs] at h
    cases h
    exact .inl ⟨rfl, rfl⟩
  | false =>
    rw [phaseTop, if_neg (by simp [hs])] at h
    cases h
    exact .inr ⟨rfl, rfl⟩

theorem phaseAdv_eq_next {s t : State} (h : phaseAdv s = .next t) :
    timeFits s.cfg s.ports.now = true ∧ t = (s.advance s.ports.now).goto .read := by
  by_cases hf : timeFits s.cfg s.ports.now = true
  · rw [phaseAdv, if_pos hf] at h
    cases h
    exact ⟨hf, rfl⟩
  · rw [phaseAdv, if_neg hf] at h
    cases h

/-- P_READ: Fail, a full read, a short read; a longer answer is refused (R113, R40). -/
theorem phaseRead_cases {s t : State} (h : phaseRead s = .next t) :
    (s.ports.rx = .fail ∧ t = (s.emit (.chanRead 8 s.cfg.readTimeout)).raiseFatal .faultRx) ∨
    (∃ b, s.ports.rx = .bytes b ∧ b.length = 8 ∧
      t = ((s.emit (.chanRead 8 s.cfg.readTimeout)).loadRx b).goto .classify) ∨
    (∃ b, s.ports.rx = .bytes b ∧ b.length < 8 ∧
      t = ((s.emit (.chanRead 8 s.cfg.readTimeout)).loadRx b).goto .yield) := by
  cases hr : s.ports.rx with
  | fail =>
    rw [phaseRead_fail hr] at h
    cases h
    exact .inl ⟨rfl, rfl⟩
  | bytes b =>
    rcases lt_trichotomy b.length 8 with hl | hl | hl
    · rw [phaseRead_short hr hl] at h
      cases h
      exact .inr (.inr ⟨b, rfl, hl, rfl⟩)
    · rw [phaseRead_full hr hl] at h
      cases h
      exact .inr (.inl ⟨b, rfl, hl, rfl⟩)
    · rw [phaseRead_long hr hl] at h
      cases h

theorem phaseClassify_cases {s t : State} (h : phaseClassify s = .next t) :
    (classify s.rxFrame = .accepted ∧ t = s.goto .build) ∨ (classify s.rxFrame = .rejected ∧ t = s.goto .yield) := by
  cases hc : classify s.rxFrame with
  | accepted =>
    rw [phaseClassify, if_pos hc] at h
    cases h
    exact .inl ⟨rfl, rfl⟩
  | rejected =>
    rw [phaseClassify, if_neg (by simp [hc])] at h
    cases h
    exact .inr ⟨rfl, rfl⟩

/-- P_WRITE: Ok and Fail; without an answer there is no next state (R116, R44). -/
theorem phaseWrite_cases {s t : State} (h : phaseWrite s = .next t) :
    (s.ports.tx = some .ok ∧
      t = (((s.emit (.chanWrite s.txFrame)).deliver 7 0).emit (.mon s.rxFrame s.txFrame)).goto .yield) ∨
    (s.ports.tx = some .fail ∧
      t = ((s.emit (.chanWrite s.txFrame)).deliver (Config.freeCount s.draws % 8) 1).raiseFatal .faultTx) := by
  cases hw : s.ports.tx with
  | none =>
    rw [phaseWrite_none hw] at h
    cases h
  | some a =>
    cases a with
    | ok =>
      rw [phaseWrite_ok hw] at h
      cases h
      exact .inl ⟨rfl, rfl⟩
    | fail =>
      rw [phaseWrite_fail hw] at h
      cases h
      exact .inr ⟨rfl, rfl⟩

/-! ### Each early exit, by its condition -/

theorem phaseTop_halt_iff {s t : State} (h : phaseTop s = .next t) : t.phase = .halt ↔ s.ports.stop = true := by
  rcases phaseTop_cases h with ⟨hs, rfl⟩ | ⟨hs, rfl⟩ <;> simp [hs]

theorem phaseRead_yield_iff {s t : State} (h : phaseRead s = .next t) :
    t.phase = .yield ↔ ∃ b, s.ports.rx = .bytes b ∧ b.length < 8 := by
  rcases phaseRead_cases h with ⟨hr, rfl⟩ | ⟨b, hr, hl, rfl⟩ | ⟨b, hr, hl, rfl⟩
  · simp [hr]
  · simp [hr, hl]
  · simp [hr, hl]

theorem phaseRead_halt_iff {s t : State} (h : phaseRead s = .next t) : t.phase = .halt ↔ s.ports.rx = .fail := by
  rcases phaseRead_cases h with ⟨hr, rfl⟩ | ⟨b, hr, -, rfl⟩ | ⟨b, hr, -, rfl⟩ <;> simp [hr]

theorem phaseClassify_yield_iff {s t : State} (h : phaseClassify s = .next t) :
    t.phase = .yield ↔ classify s.rxFrame = .rejected := by
  rcases phaseClassify_cases h with ⟨hc, rfl⟩ | ⟨hc, rfl⟩ <;> simp [hc]

theorem phaseWrite_halt_iff {s t : State} (h : phaseWrite s = .next t) :
    t.phase = .halt ↔ s.ports.tx = some .fail := by
  rcases phaseWrite_cases h with ⟨hw, rfl⟩ | ⟨hw, rfl⟩ <;> simp [hw]

/-! ### The arrows -/

/-- A phase that answers a next state leads along an arrow of the diagram (R110). -/
theorem phaseArrow_of_phaseStep {s t : State} (h : phaseStep s = .next t) (hh : s.phase ≠ .halt) :
    phaseArrow s.phase t.phase = true := by
  cases hp : s.phase with
  | top =>
    rcases phaseTop_cases (phaseStep_top hp ▸ h) with ⟨-, rfl⟩ | ⟨-, rfl⟩ <;> rfl
  | adv =>
    obtain ⟨-, rfl⟩ := phaseAdv_eq_next (phaseStep_adv hp ▸ h)
    rfl
  | read =>
    rcases phaseRead_cases (phaseStep_read hp ▸ h) with ⟨-, rfl⟩ | ⟨_, -, -, rfl⟩ | ⟨_, -, -, rfl⟩ <;> rfl
  | classify =>
    rcases phaseClassify_cases (phaseStep_classify hp ▸ h) with ⟨-, rfl⟩ | ⟨-, rfl⟩ <;> rfl
  | build =>
    rw [phaseStep_build hp] at h
    cases h
    rfl
  | write =>
    rcases phaseWrite_cases (phaseStep_write hp ▸ h) with ⟨-, rfl⟩ | ⟨-, rfl⟩ <;> rfl
  | yield =>
    rw [phaseStep_yield hp] at h
    cases h
    rfl
  | halt => exact absurd hp hh

/-! ### The statements -/

/-- Settles O30: the arrows are `phaseArrow_of_phaseStep`; each early exit is the lemma of its phase. -/
theorem phasesFollowTheDiagram : Obligations.PhasesFollowTheDiagram := fun _ _ h hh =>
  ⟨phaseArrow_of_phaseStep h hh,
    fun hp => phaseTop_halt_iff (phaseStep_top hp ▸ h),
    fun hp => ⟨phaseRead_yield_iff (phaseStep_read hp ▸ h), phaseRead_halt_iff (phaseStep_read hp ▸ h)⟩,
    fun hp => phaseClassify_yield_iff (phaseStep_classify hp ▸ h),
    fun hp => phaseWrite_halt_iff (phaseStep_write hp ▸ h)⟩

/-- Settles O31: P_YIELD is the pause event and `State.goto`, which changes PHASE alone. -/
theorem yieldChangesNoRegister : Obligations.YieldChangesNoRegister := fun _ => phaseStep_yield

end Sys2Proof.Machine

/-! PROOFS. The encoding (30_encoding.md): the decoder and the encoder are inverse to each other, the opcode table
and the reserved words, and the one frame class. -/

namespace Sys2Proof

/-! ### Command words: what each format accepts -/

theorem encode_of_formatNS {i j : Instr} {w : CmdWord} {op : BitVec 4} (hi : encode i = .command (commandWord 0 0 op))
    (hr : cmdRsv w = 0) (ho : (cmdOp w).toNat = op.toNat) (h : formatNS i w = .ok j) : encode j = .command w := by
  unfold formatNS at h
  split at h
  · cases h
  · split at h
    · cases h
    · rename_i hb hv
      cases h
      rw [hi, ← commandWord_fields hr, BitVec.eq_of_toNat_eq ho, not_not.1 hb, not_not.1 hv]

theorem encode_of_formatB {mk : Byte → Instr} {j : Instr} {w : CmdWord} {op : BitVec 4}
    (hi : ∀ b, encode (mk b) = .command (commandWord 0 b op))
    (hr : cmdRsv w = 0) (ho : (cmdOp w).toNat = op.toNat) (h : formatB mk w = .ok j) : encode j = .command w := by
  unfold formatB at h
  split at h
  · cases h
  · rename_i hv
    cases h
    rw [hi, ← not_not.1 hv, ← BitVec.eq_of_toNat_eq ho, commandWord_fields hr]

theorem encode_of_formatV {mk : Half → Instr} {j : Instr} {w : CmdWord} {op : BitVec 4}
    (hi : ∀ v, encode (mk v) = .command (commandWord v 0 op))
    (hr : cmdRsv w = 0) (ho : (cmdOp w).toNat = op.toNat) (h : formatV mk w = .ok j) : encode j = .command w := by
  unfold formatV at h
  split at h
  · cases h
  · rename_i hb
    cases h
    rw [hi, ← not_not.1 hb, ← BitVec.eq_of_toNat_eq ho, commandWord_fields hr]

/-! ### The two round trips -/

/-- A word that decodes is the encoding of its instruction: each row of R57 by its format. -/
theorem encode_of_decodeCommand {w : CmdWord} {i : Instr} (h : decodeCommand w = .ok i) : encode i = .command w := by
  unfold decodeCommand at h
  split at h
  · cases h
  · rename_i hrsv
    have hr : cmdRsv w = 0 := not_not.1 hrsv
    split at h
    · exact encode_of_formatNS (i := .reset) rfl hr ‹_› h
    · exact encode_of_formatNS (i := .crcInit) rfl hr ‹_› h
    · exact encode_of_formatB (mk := .crcByte) (fun _ => rfl) hr ‹_› h
    · exact encode_of_formatNS (i := .crcRead) rfl hr ‹_› h
    · exact encode_of_formatNS (i := .crc16) rfl hr ‹_› h
    · exact encode_of_formatNS (i := .advance) rfl hr ‹_› h
    · exact encode_of_formatNS (i := .current) rfl hr ‹_› h
    · exact encode_of_formatNS (i := .classify) rfl hr ‹_› h
    · exact encode_of_formatV (mk := .build) (fun _ => rfl) hr ‹_› h
    · exact encode_of_formatNS (i := .iterate) rfl hr ‹_› h
    · cases h

/-- The frames that decode, and what they decode to (R55, R56). -/
theorem decodeFrame_eq_ok_iff (f : List Byte) (i : Instr) :
    decodeFrame f = .ok i ↔ ∃ (qty : Half) (lo hi : Byte), i = .rdIr0 qty lo hi ∧
      f = [0x01, 0x04, 0x00, 0x00, hiByte qty, loByte qty, lo, hi] := by
  constructor
  · intro h
    unfold decodeFrame at h
    split at h
    · rename_i addr func startHi startLo qtyHi qtyLo crcLo crcHi
      split at h
      · cases h
      · split at h
        · cases h
        · split at h
          · cases h
          · rename_i ha hf hs
            cases h
            have hstart : startHi ++ startLo = 0#16 := not_not.1 hs
            have hhi : startHi = 0 := by rw [← hiByte_append startHi startLo, hstart]; rfl
            have hlo : startLo = 0 := by rw [← loByte_append startHi startLo, hstart]; rfl
            refine ⟨qtyHi ++ qtyLo, crcLo, crcHi, rfl, ?_⟩
            rw [not_not.1 ha, not_not.1 hf, hhi, hlo, hiByte_append, loByte_append]
    · cases h
  · rintro ⟨qty, lo, hi, rfl, rfl⟩
    simp [decodeFrame]

theorem encode_of_decode {c : Code} {i : Instr} (h : decode c = .ok i) : encode i = c := by
  cases c with
  | command w => exact encode_of_decodeCommand h
  | frame f =>
    obtain ⟨qty, lo, hi, rfl, rfl⟩ := (decodeFrame_eq_ok_iff f i).1 h
    rfl

/-- Each row of R57 puts its operands where its format reads them; RD_IR0 is `decodeFrame_eq_ok_iff`. -/
theorem decode_encode (i : Instr) : decode (encode i) = .ok i := by
  cases i with
  | rdIr0 qty lo hi => exact (decodeFrame_eq_ok_iff _ _).2 ⟨qty, lo, hi, rfl, rfl⟩
  | crcByte b => simp [decode, encode, decodeCommand, formatB]
  | build v => simp [decode, encode, decodeCommand, formatV]
  | _ => simp [decode, encode, decodeCommand, formatNS]

theorem decode_eq_ok_iff {c : Code} {i : Instr} : decode c = .ok i ↔ encode i = c :=
  ⟨encode_of_decode, fun h => h ▸ decode_encode i⟩

/-- Settles O43: `decode_encode`. -/
theorem decodeOfEncodeIsTheInstruction : Obligations.DecodeOfEncodeIsTheInstruction :=
  decode_encode

/-- Settles O44: `encode_of_decode`. -/
theorem encodeOfDecodeIsTheWord : Obligations.EncodeOfDecodeIsTheWord :=
  fun _ _ => encode_of_decode

/-! ### Which command words decode -/

/-- The words of R57 and R58 that are not reserved (R59), by their fields. -/
theorem exists_decodeCommand_iff (w : CmdWord) :
    (∃ i, decodeCommand w = .ok i) ↔ cmdRsv w = 0 ∧ (cmdOp w).toNat < 10 ∧
      ((cmdOp w).toNat ≠ 2 → cmdB w = 0) ∧ ((cmdOp w).toNat ≠ 8 → cmdV w = 0) := by
  constructor
  · rintro ⟨i, h⟩
    have hw := encode_of_decodeCommand h
    cases i with
    | rdIr0 => cases hw
    | _ => cases hw; simp
  · -- one case for each OP below 0xA: its format's two checks are among the hypotheses
    rintro ⟨hr, ho, hb, hv⟩
    unfold decodeCommand formatNS formatB formatV
    interval_cases (cmdOp w).toNat <;> simp [hr, hb, hv]

theorem exists_error_iff {α ε : Type} (x : Except ε α) : (∃ e, x = .error e) ↔ ¬ ∃ a, x = .ok a := by
  cases x <;> simp

/-- The reserved words, as numbers (R59). -/
theorem exists_decodeCommand_error_iff (w : CmdWord) :
    (∃ r, decodeCommand w = .error r) ↔
      (10 ≤ w.toNat % 16 ∨ w.toNat / 16 % 16 ≠ 0 ∨ (w.toNat % 16 ≠ 2 ∧ w.toNat / 256 % 256 ≠ 0) ∨
        (w.toNat % 16 ≠ 8 ∧ w.toNat / 65536 ≠ 0)) := by
  have hr : cmdRsv w = 0 ↔ w.toNat / 16 % 16 = 0 := by rw [← BitVec.toNat_inj, cmdRsv_toNat]; rfl
  have hb : cmdB w = 0 ↔ w.toNat / 256 % 256 = 0 := by rw [← BitVec.toNat_inj, cmdB_toNat]; rfl
  have hv : cmdV w = 0 ↔ w.toNat / 65536 = 0 := by rw [← BitVec.toNat_inj, cmdV_toNat]; rfl
  rw [exists_error_iff, exists_decodeCommand_iff, cmdOp_toNat, hr, hb, hv]
  omega

/-! ### The opcode table -/

/-- A word is its four fields (R57). -/
theorem cmdWord_eq_iff_fields (w w' : CmdWord) :
    w = w' ↔ cmdOp w = cmdOp w' ∧ cmdRsv w = cmdRsv w' ∧ cmdB w = cmdB w' ∧ cmdV w = cmdV w' := by
  simp only [← BitVec.toNat_inj, cmdOp_toNat, cmdRsv_toNat, cmdB_toNat, cmdV_toNat]
  omega

/-- A row fixes each field of its words under the mask's same field. -/
theorem TableRow.holds_iff_fields (r : TableRow) (w : CmdWord) :
    r.holds w = true ↔ cmdOp w &&& cmdOp r.mask = cmdOp r.value ∧ cmdRsv w &&& cmdRsv r.mask = cmdRsv r.value ∧
      cmdB w &&& cmdB r.mask = cmdB r.value ∧ cmdV w &&& cmdV r.mask = cmdV r.value := by
  rw [TableRow.holds, beq_iff_eq, cmdWord_eq_iff_fields]
  simp only [cmdOp, cmdRsv, cmdB, cmdV, BitVec.extractLsb'_and]

/-- The table's masks hold OP and RSV in every row, B in every row but CRC_BYTE's and V in every row but BUILD's, each
with the value that R57 and R58 ask for. -/
theorem commandTable_fields : ∀ r ∈ commandTable,
    cmdOp r.mask = BitVec.allOnes 4 ∧ (cmdOp r.value).toNat < 10 ∧
    cmdRsv r.mask = BitVec.allOnes 4 ∧ cmdRsv r.value = 0 ∧
    ((cmdOp r.value).toNat ≠ 2 → cmdB r.mask = BitVec.allOnes 8 ∧ cmdB r.value = 0) ∧
    ((cmdOp r.value).toNat ≠ 8 → cmdV r.mask = BitVec.allOnes 16 ∧ cmdV r.value = 0) := by
  decide

/-- A word of a row has the row's OP. -/
theorem cmdOp_of_holds {r : TableRow} (hr : r ∈ commandTable) {w : CmdWord} (h : r.holds w = true) :
    cmdOp w = cmdOp r.value := by
  obtain ⟨hmask, -⟩ := commandTable_fields r hr
  obtain ⟨hop, -⟩ := (r.holds_iff_fields w).1 h
  rwa [hmask, BitVec.and_allOnes] at hop

theorem exists_decodeCommand_of_holds {r : TableRow} (hr : r ∈ commandTable) {w : CmdWord} (h : r.holds w = true) :
    ∃ i, decodeCommand w = .ok i := by
  have hop := cmdOp_of_holds hr h
  obtain ⟨-, hlt, hrm, hrv, hb, hv⟩ := commandTable_fields r hr
  obtain ⟨-, hrsv, hB, hV⟩ := (r.holds_iff_fields w).1 h
  refine (exists_decodeCommand_iff w).2 ⟨?_, hop ▸ hlt, fun h2 => ?_, fun h8 => ?_⟩
  · rwa [hrm, hrv, BitVec.and_allOnes] at hrsv
  · obtain ⟨hm, h0⟩ := hb (hop ▸ h2)
    rwa [hm, h0, BitVec.and_allOnes] at hB
  · obtain ⟨hm, h0⟩ := hv (hop ▸ h8)
    rwa [hm, h0, BitVec.and_allOnes] at hV

/-- An instruction's word is in the instruction's row. -/
theorem exists_row_of_encode {i : Instr} {w : CmdWord} (h : encode i = .command w) :
    ∃ r ∈ commandTable, i.row = some r ∧ r.holds w = true := by
  cases i with
  | rdIr0 => cases h
  | crcByte b =>
    cases h
    refine ⟨⟨0xFFFF00FF, 0x00000002⟩, by decide, rfl, (TableRow.holds_iff_fields _ _).2 ?_⟩
    rw [cmdOp_commandWord, cmdRsv_commandWord, cmdB_commandWord, cmdV_commandWord]
    exact ⟨by decide, by decide, BitVec.and_zero, by decide⟩
  | build v =>
    cases h
    refine ⟨⟨0x0000FFFF, 0x00000008⟩, by decide, rfl, (TableRow.holds_iff_fields _ _).2 ?_⟩
    rw [cmdOp_commandWord, cmdRsv_commandWord, cmdB_commandWord, cmdV_commandWord]
    exact ⟨by decide, by decide, by decide, BitVec.and_zero⟩
  | _ =>
    cases h
    exact ⟨_, by decide, rfl, by decide⟩

/-- Two rows have different OPs (R57), and a word has one. -/
theorem commandTable_disjoint :
    commandTable.Pairwise fun r r' => ∀ w : CmdWord, ¬ (r.holds w = true ∧ r'.holds w = true) := by
  have hops : commandTable.Pairwise fun r r' => cmdOp r.value ≠ cmdOp r'.value := by decide
  refine hops.imp_of_mem fun hr hr' hne w ⟨h, h'⟩ => hne ?_
  rw [← cmdOp_of_holds hr h, cmdOp_of_holds hr' h']

/-! ### The frame word and the accepted frames -/

theorem classify_eq_accepted_iff_decode (buf : List Byte) :
    Machine.classify buf = .accepted ↔ ∃ i, decode (.frame buf) = .ok i := by
  rw [Machine.classify_eq_accepted_iff]
  constructor
  · rintro ⟨e, f, g, h, rfl⟩
    exact ⟨.rdIr0 (e ++ f) g h, decode_eq_ok_iff.2 (by simp [encode])⟩
  · rintro ⟨i, hi⟩
    obtain ⟨qty, lo, hi, -, rfl⟩ := (decodeFrame_eq_ok_iff _ _).1 hi
    exact ⟨_, _, _, _, rfl⟩

/-- The opcode table's mask holds the first four bytes of a frame word (R53). -/
theorem frameWord_mask_iff (fw : BitVec 64) :
    fw &&& 0xFFFFFFFF00000000 = 0x0104000000000000 ↔ fw.extractLsb' 32 32 = 0x01040000 := by
  have hhalves (x y : BitVec 64) :
      x = y ↔ x.extractLsb' 32 32 = y.extractLsb' 32 32 ∧ x.extractLsb' 0 32 = y.extractLsb' 0 32 := by
    simp only [← BitVec.toNat_inj, BitVec.extractLsb'_toNat, Nat.shiftRight_eq_div_pow]
    omega
  rw [hhalves, BitVec.extractLsb'_and, BitVec.extractLsb'_and]
  have hhigh : (0xFFFFFFFF00000000 : BitVec 64).extractLsb' 32 32 = BitVec.allOnes 32 := by decide
  have hlow : (0xFFFFFFFF00000000 : BitVec 64).extractLsb' 0 32 = 0 := by decide
  rw [hhigh, hlow, BitVec.and_allOnes]
  exact and_iff_left BitVec.and_zero

/-- A frame word's bytes are Accepted by its upper half (R53, R90). -/
theorem classify_frameOfWord_iff (fw : BitVec 64) :
    Machine.classify (frameOfWord fw).toList = .accepted ↔ fw.extractLsb' 32 32 = 0x01040000 := by
  rw [Machine.classify_eq_accepted_iff_getElem?]
  simp only [frameOfWord, Vector.toList_mk, List.length_cons, List.length_nil, List.getElem?_cons_zero,
    List.getElem?_cons_succ, Option.some.injEq, true_and, ← BitVec.toNat_inj, BitVec.extractLsb'_toNat,
    Nat.shiftRight_eq_div_pow, BitVec.ofNat_eq_ofNat, BitVec.toNat_ofNat]
  omega

theorem decodeTableWord_64 (fw : BitVec 64) :
    decodeTableWord 64 fw.toNat = (decode (.frame (frameOfWord fw).toList)).toOption := by
  have hlt : ¬ 2 ^ 64 ≤ fw.toNat := Nat.not_le.2 fw.isLt
  rw [decodeTableWord, codeOfTableWord, if_neg hlt]
  simp

theorem isSome_toOption_iff {α ε : Type} (x : Except ε α) : x.toOption.isSome = true ↔ ∃ a, x = .ok a := by
  cases x <;> simp [Except.toOption]

theorem isSome_decodeTableWord_64_iff (fw : BitVec 64) :
    (decodeTableWord 64 fw.toNat).isSome = true ↔ fw &&& 0xFFFFFFFF00000000 = 0x0104000000000000 := by
  rw [decodeTableWord_64, isSome_toOption_iff, ← classify_eq_accepted_iff_decode, classify_frameOfWord_iff,
    frameWord_mask_iff]

/-- The Accepted buffer with this quantity and these checksum bytes, as one 32-bit value, first byte highest (R94). -/
def acceptedBuffer (w : BitVec 32) : List Byte :=
  [0x01, 0x04, 0x00, 0x00, hiByte (w.extractLsb' 16 16), loByte (w.extractLsb' 16 16),
    hiByte (w.extractLsb' 0 16), loByte (w.extractLsb' 0 16)]

theorem acceptedBuffer_injective : Function.Injective acceptedBuffer := by
  intro w w' h
  simp only [acceptedBuffer, List.cons.injEq, true_and, and_true, ← BitVec.toNat_inj, BitVec.extractLsb'_toNat,
    Nat.shiftRight_eq_div_pow] at h
  rw [← BitVec.toNat_inj]
  omega

theorem classify_eq_accepted_iff_acceptedBuffer (buf : List Byte) :
    Machine.classify buf = .accepted ↔ ∃ w, acceptedBuffer w = buf := by
  rw [Machine.classify_eq_accepted_iff]
  constructor
  · rintro ⟨e, f, g, h, rfl⟩
    have hleft : ((e ++ f) ++ (g ++ h) : BitVec 32).extractLsb' 16 16 = e ++ f := BitVec.extractLsb'_append_eq_left
    have hright : ((e ++ f) ++ (g ++ h) : BitVec 32).extractLsb' 0 16 = g ++ h := BitVec.extractLsb'_append_eq_right
    exact ⟨(e ++ f) ++ (g ++ h), by simp [acceptedBuffer, hleft, hright]⟩
  · rintro ⟨w, rfl⟩
    exact ⟨_, _, _, _, rfl⟩

/-! ### The statements -/

/-- Settles O15: `acceptedBuffer` is the bijection. -/
theorem exactlyTwoToThe32BuffersAreAccepted : Obligations.ExactlyTwoToThe32BuffersAreAccepted := by
  refine ⟨fun w => ⟨acceptedBuffer w, (classify_eq_accepted_iff_acceptedBuffer _).2 ⟨w, rfl⟩⟩, fun w w' h => ?_,
    fun ⟨buf, hbuf⟩ => ?_⟩
  · exact acceptedBuffer_injective (Subtype.mk.inj h)
  · obtain ⟨w, rfl⟩ := (classify_eq_accepted_iff_acceptedBuffer buf).1 hbuf
    exact ⟨w, rfl⟩

/-- Settles O16: the three readings of a frame, each by its lemma above. -/
theorem frameDecoderAgreesWithClassifier : Obligations.FrameDecoderAgreesWithClassifier :=
  ⟨classify_eq_accepted_iff_decode, decodeFrame_eq_ok_iff, isSome_decodeTableWord_64_iff⟩

/-- Settles O42: rows and instructions by the fields of their words, `commandTable_disjoint` for the third clause. -/
theorem decoderAgreesWithTheOpcodeTable : Obligations.DecoderAgreesWithTheOpcodeTable := by
  refine ⟨fun w => ⟨fun ⟨i, h⟩ => ?_, fun ⟨r, hr, h⟩ => exists_decodeCommand_of_holds hr h⟩, fun w i h => ?_,
    commandTable_disjoint⟩
  · obtain ⟨r, hr, -, hw⟩ := exists_row_of_encode (encode_of_decode h)
    exact ⟨r, hr, hw⟩
  · obtain ⟨r, -, hrow, hw⟩ := exists_row_of_encode (encode_of_decode h)
    exact ⟨r, hrow, hw⟩

/-- Settles O45: eleven closed words. -/
theorem sampleWordsDecodeAsTheSpecSays : Obligations.SampleWordsDecodeAsTheSpecSays := by
  unfold Obligations.SampleWordsDecodeAsTheSpecSays
  decide

end Sys2Proof

/-! PROOFS. ITERATE (44_loop.md): the state each way out of an iteration leads to, the outcome of an ITERATE as one case
distinction, and what one iteration does. -/

namespace Sys2Proof.Machine

/-! ### Where an iteration ends -/

/-- After the iteration's ADVANCE and a read that gave the bytes b (R112, R113). -/
def State.afterRead (s : State) (b : List Byte) : State :=
  ((s.advance s.ports.now).emit (.chanRead 8 s.cfg.readTimeout)).loadRx b

/-- After the iteration's ADVANCE and a failed read (R113, R132). -/
def State.readFailed (s : State) : State :=
  ((s.advance s.ports.now).emit (.chanRead 8 s.cfg.readTimeout)).raiseFatal .faultRx

/-- The end of an iteration that read b and had nothing to answer (R113, R114, R117). -/
def State.dropped (s : State) (b : List Byte) : State :=
  ((s.afterRead b).emit (.pause s.cfg.yieldTime)).goto .top

/-- From P_WRITE to the end of the iteration, when the write answers Ok (R116, R117, R121). -/
def State.written (s : State) : State :=
  ((((s.emit (.chanWrite s.txFrame)).deliver 7 0).emit (.mon s.rxFrame s.txFrame)).emit
    (.pause s.cfg.yieldTime)).goto .top

/-- From P_WRITE to P_HALT, when the write answers Fail (R116, R132). -/
def State.writeFailed (s : State) : State :=
  ((s.emit (.chanWrite s.txFrame)).deliver (Config.freeCount s.draws % 8) 1).raiseFatal .faultTx

/-! ### The same states, field by field -/

@[simp] theorem State.written_meas (s : State) : s.written.meas = s.meas := rfl
@[simp] theorem State.written_lastAdv (s : State) : s.written.lastAdv = s.lastAdv := rfl
@[simp] theorem State.written_crcAcc (s : State) : s.written.crcAcc = s.crcAcc := rfl
@[simp] theorem State.written_rxbuf (s : State) : s.written.rxbuf = s.rxbuf := rfl
@[simp] theorem State.written_rxlen (s : State) : s.written.rxlen = s.rxlen := rfl
@[simp] theorem State.written_txbuf (s : State) : s.written.txbuf = s.txbuf := rfl
@[simp] theorem State.written_status (s : State) : s.written.status = s.status := rfl
@[simp] theorem State.writeFailed_meas (s : State) : s.writeFailed.meas = s.meas := rfl
@[simp] theorem State.writeFailed_lastAdv (s : State) : s.writeFailed.lastAdv = s.lastAdv := rfl
@[simp] theorem State.writeFailed_crcAcc (s : State) : s.writeFailed.crcAcc = s.crcAcc := rfl
@[simp] theorem State.writeFailed_rxbuf (s : State) : s.writeFailed.rxbuf = s.rxbuf := rfl
@[simp] theorem State.writeFailed_rxlen (s : State) : s.writeFailed.rxlen = s.rxlen := rfl
@[simp] theorem State.writeFailed_txbuf (s : State) : s.writeFailed.txbuf = s.txbuf := rfl
@[simp] theorem State.writeFailed_status (s : State) : s.writeFailed.status = .faultTx := rfl
@[simp] theorem State.writeFailed_phase (s : State) : s.writeFailed.phase = .halt := rfl

/-- ADVANCE writes MEAS and LAST_ADV alone (R80). -/
theorem exists_advance_eq_setMeas (s : State) (now : Nat) : ∃ m t, s.advance now = s.setMeas m t := by
  rcases advance_cases s now with ⟨-, e⟩ | ⟨-, e⟩
  · exact ⟨_, _, e⟩
  · exact ⟨s.meas, s.lastAdv, e⟩

theorem State.afterRead_eq (s : State) (b : List Byte) :
    s.afterRead b = { s with
      meas := (s.advance s.ports.now).meas, lastAdv := (s.advance s.ports.now).lastAdv
      rxlen := BitVec.ofNat 4 b.length, rxbuf := (s.afterRead b).rxbuf, draws := s.draws + 8
      trace := s.trace ++ [.chanRead 8 s.cfg.readTimeout] } := by
  obtain ⟨m, t, h⟩ := exists_advance_eq_setMeas s s.ports.now
  simp only [State.afterRead, h]
  rfl

theorem State.readFailed_eq (s : State) :
    s.readFailed = { s with
      meas := (s.advance s.ports.now).meas, lastAdv := (s.advance s.ports.now).lastAdv
      status := .faultRx, phase := .halt, trace := s.trace ++ [.chanRead 8 s.cfg.readTimeout] } := by
  obtain ⟨m, t, h⟩ := exists_advance_eq_setMeas s s.ports.now
  simp only [State.readFailed, h]
  rfl

theorem State.dropped_eq (s : State) (b : List Byte) :
    s.dropped b = { s with
      meas := (s.advance s.ports.now).meas, lastAdv := (s.advance s.ports.now).lastAdv
      rxlen := BitVec.ofNat 4 b.length, rxbuf := (s.afterRead b).rxbuf, draws := s.draws + 8, phase := .top
      trace := s.trace ++ [.chanRead 8 s.cfg.readTimeout, .pause s.cfg.yieldTime] } := by
  rw [State.dropped, State.afterRead_eq]
  simp [State.emit, State.goto]

theorem State.writing_eq (s : State) (b : List Byte) :
    s.writing b = { s with
      meas := (s.advance s.ports.now).meas, lastAdv := (s.advance s.ports.now).lastAdv
      rxlen := BitVec.ofNat 4 b.length, rxbuf := (s.afterRead b).rxbuf, draws := s.draws + 8, phase := .write
      txbuf := build (s.advance s.ports.now).measValue, trace := s.trace ++ [.chanRead 8 s.cfg.readTimeout] } := by
  change ((s.afterRead b).loadTx _).goto .write = _
  rw [State.afterRead_eq]
  rfl

theorem State.written_eq (s : State) :
    s.written = { s with
      phase := .top
      trace := s.trace ++ [.chanWrite s.txFrame, .mon s.rxFrame s.txFrame, .pause s.cfg.yieldTime]
      wire := s.wire ++ s.txFrame } := by
  have hlen : s.txbuf.toList.length ≤ 7 := by simp
  simp [State.written, State.emit, State.deliver, State.goto, State.txFrame, List.take_of_length_le hlen]

theorem State.writing_written_eq (s : State) {b : List Byte} (hb : answers b = true) :
    (s.writing b).written = { s with
      meas := (s.advance s.ports.now).meas, lastAdv := (s.advance s.ports.now).lastAdv
      rxlen := 8, rxbuf := (s.afterRead b).rxbuf, draws := s.draws + 8, phase := .top
      txbuf := build (s.advance s.ports.now).measValue
      trace := s.trace ++ [.chanRead 8 s.cfg.readTimeout, .chanWrite (build (s.advance s.ports.now).measValue).toList,
        .mon b (build (s.advance s.ports.now).measValue).toList, .pause s.cfg.yieldTime]
      wire := s.wire ++ (build (s.advance s.ports.now).measValue).toList } := by
  have hread : (s.afterRead b).rxbuf.toList = b := rxFrame_loadRx (length_of_answers hb)
  rw [State.written_eq, State.writing_eq]
  simp [State.txFrame, State.rxFrame, hread, length_of_answers hb]

theorem State.writing_writeFailed_eq (s : State) {b : List Byte} (hb : answers b = true) :
    (s.writing b).writeFailed = { s with
      meas := (s.advance s.ports.now).meas, lastAdv := (s.advance s.ports.now).lastAdv
      rxlen := 8, rxbuf := (s.afterRead b).rxbuf, draws := s.draws + 9, phase := .halt, status := .faultTx
      txbuf := build (s.advance s.ports.now).measValue
      trace := s.trace ++ [.chanRead 8 s.cfg.readTimeout, .chanWrite (build (s.advance s.ports.now).measValue).toList]
      wire := s.wire ++
        (build (s.advance s.ports.now).measValue).toList.take (Config.freeCount (s.draws + 8) % 8) } := by
  rw [State.writeFailed, State.writing_eq]
  simp [State.txFrame, State.emit, State.deliver, State.raiseFatal, State.goto, State.setStatus, length_of_answers hb]

/-! ### What follows the write -/

/-- After the write an iteration has at most P_YIELD to go. -/
theorem andThen_phaseWrite (s : State) (k : Nat) :
    andThen (phaseWrite s) (runPhases (k + 1)) =
      match s.ports.tx with
      | none => .fault .stuckInWrite
      | some .ok => .next s.written
      | some .fail => .next s.writeFailed := by
  cases h : s.ports.tx with
  | none => rw [phaseWrite_none h, andThen_fault]
  | some a =>
    cases a with
    | ok =>
      rw [phaseWrite_ok h, andThen_next, runPhases_yield (State.goto_phase _ _)]
      rfl
    | fail =>
      rw [phaseWrite_fail h, andThen_next]
      exact runPhases_boundary (by simp) _

/-! ### ITERATE by the answer of the read -/

theorem execIterate_readFailed {s : State} (ha : Accepting s) (ht : s.phase = .top) (hs : s.ports.stop = false)
    (hf : timeFits s.cfg s.ports.now = true) (hr : s.ports.rx = .fail) : execIterate s = .next s.readFailed := by
  rw [execIterate_runs ha ht hs hf, goto_advance_goto, phaseRead_fail (by simpa using hr), andThen_next,
    runPhases_boundary (by simp), State.goto_cfg, State.advance_cfg]
  rfl

theorem execIterate_rxTooLong {s : State} {b : List Byte} (ha : Accepting s) (ht : s.phase = .top)
    (hs : s.ports.stop = false) (hf : timeFits s.cfg s.ports.now = true) (hr : s.ports.rx = .bytes b)
    (hl : 8 < b.length) : execIterate s = .refused .rxTooLong := by
  rw [execIterate_runs ha ht hs hf, goto_advance_goto, phaseRead_long (by simpa using hr) hl, andThen_refused]

/-- Nothing to answer: fewer than 8 bytes, or a Rejected frame. -/
theorem execIterate_dropped {s : State} {b : List Byte} (ha : Accepting s) (ht : s.phase = .top)
    (hs : s.ports.stop = false) (hf : timeFits s.cfg s.ports.now = true) (hr : s.ports.rx = .bytes b)
    (hl : b.length ≤ 8) (hb : answers b = false) : execIterate s = .next (s.dropped b) := by
  rw [execIterate_runs ha ht hs hf, goto_advance_goto]
  rcases Nat.lt_or_eq_of_le hl with hlt | heq
  · rw [phaseRead_short (by simpa using hr) hlt, andThen_next, runPhases_yield (State.goto_phase _ _)]
    simp only [State.dropped, State.afterRead, goto_emit, goto_loadRx, goto_goto, State.goto_cfg, State.loadRx_cfg,
      State.emit_cfg, State.advance_cfg]
  · have hrej : classify b = .rejected := (classify_eq_rejected_iff b).2 (by simp [← answers_iff, hb])
    rw [phaseRead_full (by simpa using hr) heq, andThen_next,
      runPhases_classify_rejected (State.goto_phase _ _) (by rwa [State.rxFrame_goto, rxFrame_loadRx heq]),
      runPhases_yield (State.goto_phase _ _)]
    simp only [State.dropped, State.afterRead, goto_emit, goto_loadRx, goto_goto, State.goto_cfg, State.loadRx_cfg,
      State.emit_cfg, State.advance_cfg]

/-- An Accepted request: the iteration ends as the write answers. -/
theorem execIterate_writing {s : State} {b : List Byte} (ha : Accepting s) (ht : s.phase = .top)
    (hs : s.ports.stop = false) (hf : timeFits s.cfg s.ports.now = true) (hr : s.ports.rx = .bytes b)
    (hb : answers b = true) :
    execIterate s =
      match s.ports.tx with
      | none => .fault .stuckInWrite
      | some .ok => .next (s.writing b).written
      | some .fail => .next (s.writing b).writeFailed := by
  rw [execIterate_answers ha ht hs hf hr hb, andThen_phaseWrite, State.writing_ports]

/-! ### The outcome of ITERATE, as one case distinction -/

/-- What an ITERATE from P_TOP in an accepting state can come to, and when. -/
inductive IterateOutcome (s : State) : Out → Prop
  | stopped (hs : s.ports.stop = true) : IterateOutcome s (.next ((s.setStatus .stopped).goto .halt))
  | timeWrap (hs : s.ports.stop = false) (hf : timeFits s.cfg s.ports.now = false) :
      IterateOutcome s (.refused .timeWrap)
  | readFailed (hs : s.ports.stop = false) (hf : timeFits s.cfg s.ports.now = true) (hr : s.ports.rx = .fail) :
      IterateOutcome s (.next s.readFailed)
  | rxTooLong (b : List Byte) (hs : s.ports.stop = false) (hf : timeFits s.cfg s.ports.now = true)
      (hr : s.ports.rx = .bytes b) (hl : 8 < b.length) : IterateOutcome s (.refused .rxTooLong)
  | dropped (b : List Byte) (hs : s.ports.stop = false) (hf : timeFits s.cfg s.ports.now = true)
      (hr : s.ports.rx = .bytes b) (hl : b.length ≤ 8) (hb : answers b = false) : IterateOutcome s (.next (s.dropped b))
  | stuck (b : List Byte) (hs : s.ports.stop = false) (hf : timeFits s.cfg s.ports.now = true)
      (hr : s.ports.rx = .bytes b) (hb : answers b = true) (hw : s.ports.tx = none) :
      IterateOutcome s (.fault .stuckInWrite)
  | answered (b : List Byte) (hs : s.ports.stop = false) (hf : timeFits s.cfg s.ports.now = true)
      (hr : s.ports.rx = .bytes b) (hb : answers b = true) (hw : s.ports.tx = some .ok) :
      IterateOutcome s (.next (s.writing b).written)
  | writeFailed (b : List Byte) (hs : s.ports.stop = false) (hf : timeFits s.cfg s.ports.now = true)
      (hr : s.ports.rx = .bytes b) (hb : answers b = true) (hw : s.ports.tx = some .fail) :
      IterateOutcome s (.next (s.writing b).writeFailed)

theorem iterateOutcome_execIterate {s : State} (ha : Accepting s) (ht : s.phase = .top) :
    IterateOutcome s (execIterate s) := by
  cases hs : s.ports.stop with
  | true =>
    rw [execIterate_stop ha ht hs]
    exact .stopped hs
  | false =>
    cases hf : timeFits s.cfg s.ports.now with
    | false =>
      rw [execIterate_timeWrap ha ht hs hf]
      exact .timeWrap hs hf
    | true =>
      cases hr : s.ports.rx with
      | fail =>
        rw [execIterate_readFailed ha ht hs hf hr]
        exact .readFailed hs hf hr
      | bytes b =>
        cases hb : answers b with
        | true =>
          rw [execIterate_writing ha ht hs hf hr hb]
          cases hw : s.ports.tx with
          | none => exact .stuck b hs hf hr hb hw
          | some a =>
            cases a with
            | ok => exact .answered b hs hf hr hb hw
            | fail => exact .writeFailed b hs hf hr hb hw
        | false =>
          rcases Nat.lt_or_ge 8 b.length with hl | hl
          · rw [execIterate_rxTooLong ha ht hs hf hr hl]
            exact .rxTooLong b hs hf hr hl
          · rw [execIterate_dropped ha ht hs hf hr hl hb]
            exact .dropped b hs hf hr hl hb

/-- An ITERATE that answers a next state. -/
theorem iterateOutcome_of_next {s t : State} (h : execIterate s = .next t) :
    Accepting s ∧ s.phase = .top ∧ IterateOutcome s (.next t) := by
  obtain ⟨ha, ho⟩ := perform_eq_next h
  by_cases ht : s.phase = .top
  · exact ⟨ha, ht, h ▸ iterateOutcome_execIterate ha ht⟩
  · rw [if_neg ht] at ho
    cases ho

/-! ### The pseudocode of R118 -/

theorem execIterate_eq_iterateAsR118 {s : State} (ha : Accepting s) (ht : s.phase = .top) :
    execIterate s = iterateAsR118 s := by
  have h := iterateOutcome_execIterate ha ht
  generalize execIterate s = o at h
  have hread (b) : ((s.advance s.ports.now).loadRx b).rxbuf = (s.afterRead b).rxbuf := rfl
  unfold iterateAsR118
  cases h with
  | stopped hs => rw [if_pos hs]; rfl
  | timeWrap hs hf => simp [hs, hf]
  | readFailed hs hf hr => simp [hs, hf, hr, State.readFailed_eq]
  | rxTooLong b hs hf hr hl => simp [hs, hf, hr, hl]
  | dropped b hs hf hr hl hb => simp [hs, hf, hr, hb, Nat.not_lt.2 hl, State.dropped_eq, hread, -State.loadRx_rxbuf]
  | stuck b hs hf hr hb hw => simp [hs, hf, hr, hb, hw, length_of_answers hb]
  | answered b hs hf hr hb hw =>
    simp [hs, hf, hr, hb, hw, length_of_answers hb, State.writing_written_eq s hb, hread, -State.loadRx_rxbuf]
  | writeFailed b hs hf hr hb hw =>
    simp [hs, hf, hr, hb, hw, length_of_answers hb, State.writing_writeFailed_eq s hb, hread, -State.loadRx_rxbuf]

/-- ITERATE is refused where STATUS is not RUN or PHASE is not P_TOP (R59, R118). -/
theorem execIterate_refused {s : State} (h : s.status ≠ .run ∨ s.phase ≠ .top) : ∃ r, execIterate s = .refused r := by
  by_cases ha : Accepting s
  · exact ⟨_, execIterate_of_not_top ha (h.resolve_left (not_not.2 ha.running))⟩
  · exact perform_of_not_accepting ha _

/-! ### RD_IR0 -/

/-- P_BUILD, up to P_WRITE (R115). -/
def State.answering (s : State) : State := (s.loadTx (build s.measValue)).goto .write

@[simp] theorem State.answering_meas (s : State) : s.answering.meas = s.meas := rfl
@[simp] theorem State.answering_lastAdv (s : State) : s.answering.lastAdv = s.lastAdv := rfl
@[simp] theorem State.answering_crcAcc (s : State) : s.answering.crcAcc = s.crcAcc := rfl
@[simp] theorem State.answering_rxbuf (s : State) : s.answering.rxbuf = s.rxbuf := rfl
@[simp] theorem State.answering_rxlen (s : State) : s.answering.rxlen = s.rxlen := rfl
@[simp] theorem State.answering_status (s : State) : s.answering.status = s.status := rfl

theorem State.writing_eq_answering (s : State) (b : List Byte) (p : Phase) :
    s.writing b = ((s.afterRead b).goto p).answering := by
  simp only [State.answering, State.afterRead, State.writing, State.measValue_goto, State.measValue_loadRx,
    State.measValue_emit, goto_loadTx, goto_goto]

theorem execRdIr0_of_not_classify {s : State} (qty : Half) (lo hi : Byte) (ha : Accepting s)
    (hp : s.phase ≠ .classify) : execRdIr0 qty lo hi s = .refused .notClassifying := by
  rw [execRdIr0, perform_of_accepting ha, if_neg hp]

/-- From P_BUILD an iteration ends as the write answers. -/
theorem runPhases_goto_build (s : State) :
    runPhases 6 (s.goto .build) =
      match s.ports.tx with
      | none => .fault .stuckInWrite
      | some .ok => .next s.answering.written
      | some .fail => .next s.answering.writeFailed := by
  rw [runPhases_build (State.goto_phase _ _), andThen_phaseWrite]
  rfl

/-- At P_CLASSIFY, RD_IR0 ends the iteration as the write answers, whatever its operands (R51, R91). -/
theorem execRdIr0_classify {s : State} (qty : Half) (lo hi : Byte) (ha : Accepting s) (hp : s.phase = .classify) :
    execRdIr0 qty lo hi s =
      match s.ports.tx with
      | none => .fault .stuckInWrite
      | some .ok => .next s.answering.written
      | some .fail => .next s.answering.writeFailed := by
  rw [execRdIr0, perform_of_accepting ha, if_pos hp, runPhases_goto_build]

theorem State.answering_written_eq (s : State) :
    s.answering.written = { s with
      txbuf := build s.measValue, phase := .top
      trace := s.trace ++ [.chanWrite (build s.measValue).toList, .mon s.rxbuf.toList (build s.measValue).toList,
        .pause s.cfg.yieldTime]
      wire := s.wire ++ (build s.measValue).toList } := by
  rw [State.written_eq]
  rfl

theorem State.answering_writeFailed_eq (s : State) :
    s.answering.writeFailed = { s with
      txbuf := build s.measValue, phase := .halt, status := .faultTx, draws := s.draws + 1
      trace := s.trace ++ [.chanWrite (build s.measValue).toList]
      wire := s.wire ++ (build s.measValue).toList.take (Config.freeCount s.draws % 8) } := by
  simp [State.writeFailed, State.answering, State.txFrame, State.emit, State.deliver, State.raiseFatal, State.goto,
    State.setStatus, State.loadTx]

/-- A frame that decodes is an Accepted request, and decodes to RD_IR0. -/
theorem answers_of_decode {b : List Byte} {i : Instr} (h : decode (.frame b) = .ok i) :
    answers b = true ∧ ∃ qty lo hi, i = .rdIr0 qty lo hi := by
  obtain ⟨qty, lo, hi, rfl, -⟩ := (decodeFrame_eq_ok_iff b i).1 h
  exact ⟨(answers_iff b).2 ((classify_eq_accepted_iff_decode b).2 ⟨_, h⟩), qty, lo, hi, rfl⟩

/-- An iteration that has read comes to P_CLASSIFY in a state that accepts commands. -/
theorem Accepting.afterRead {s : State} {b : List Byte} (h : Accepting s) :
    Accepting ((s.afterRead b).goto .classify) :=
  ⟨by simp [State.afterRead, h.resetSeen], by simpa [State.afterRead] using advance_measLegal h.measLegal _,
    by simp [State.afterRead, h.running], by simp⟩

/-- ITERATE that reads a frame has the outcome of that frame's instruction after the read (log 12). -/
theorem execIterate_eq_exec_frame {s : State} {b : List Byte} {i : Instr} (ha : Accepting s) (ht : s.phase = .top)
    (hs : s.ports.stop = false) (hf : timeFits s.cfg s.ports.now = true) (hr : s.ports.rx = .bytes b)
    (hd : decode (.frame b) = .ok i) : execIterate s = exec i ((s.afterRead b).goto .classify) := by
  obtain ⟨hb, qty, lo, hi, rfl⟩ := answers_of_decode hd
  have htx : ((s.afterRead b).goto .classify).ports.tx = s.ports.tx := by simp [State.afterRead]
  rw [execIterate_writing ha ht hs hf hr hb, State.writing_eq_answering s b .classify, exec,
    execRdIr0_classify qty lo hi ha.afterRead (State.goto_phase _ _), htx]

/-! ### The statements -/

/-- Settles O21: `execIterate_eq_iterateAsR118` is the agreement, `execIterate_refused` the precondition. -/
theorem iterateIsTheCompositionOfThePhases : Obligations.IterateIsTheCompositionOfThePhases :=
  ⟨rfl, fun _ => execIterate_eq_iterateAsR118, fun _ => execIterate_refused⟩

/-- Settles O22: the stop path writes STATUS and PHASE alone. -/
theorem stopAtTopEndsTheRunCleanly : Obligations.StopAtTopEndsTheRunCleanly :=
  fun _ => execIterate_stop

/-- Settles O23: `State.readFailed`, field by field. -/
theorem readFailureHaltsAfterTheAdvance : Obligations.ReadFailureHaltsAfterTheAdvance := fun s ha ht hs hf hr => by
  rw [exec, execIterate_readFailed ha ht hs hf hr, State.readFailed_eq]

/-- Settles O24: fewer than 8 bytes are no request, and `State.dropped` field by field. -/
theorem shortReadIsDropped : Obligations.ShortReadIsDropped := fun s b ha ht hs hf hr hl => by
  have hb : answers b = false := by simp [answers, hl.ne]
  refine ⟨(s.afterRead b).rxbuf, s.draws + 8, rxFrame_loadRx_take hl.le, ?_⟩
  rw [exec, execIterate_dropped ha ht hs hf hr hl.le hb, State.dropped_eq, ht]

/-- Settles O25: a Rejected frame is no request, and `State.dropped` field by field. -/
theorem rejectedFrameIsSilentlyDropped : Obligations.RejectedFrameIsSilentlyDropped :=
  fun s b ha ht hs hf hr hl hc => by
  have hb : answers b = false := by simp [answers, hc]
  refine ⟨(s.afterRead b).rxbuf, s.draws + 8, rxFrame_loadRx hl, ?_⟩
  rw [exec, execIterate_dropped ha ht hs hf hr hl.le hb, State.dropped_eq, ht, hl]
  rfl

/-- Settles O26: `execIterate_writing` by the TX answer, its two end states field by field. -/
theorem acceptedRequestIsAnswered : Obligations.AcceptedRequestIsAnswered := fun s b ha ht hs hf hr hl hc => by
  have hb : answers b = true := (answers_iff b).2 hc
  have hread : (s.afterRead b).rxbuf.toList = b := rxFrame_loadRx hl
  rw [← measValue_eq, exec, execIterate_writing ha ht hs hf hr hb]
  refine ⟨fun hw => ⟨(s.afterRead b).rxbuf, s.draws + 8, hread, ?_⟩,
    fun hw => ⟨(s.afterRead b).rxbuf, s.draws + 9, Config.freeCount (s.draws + 8) % 8, hread, ?_⟩⟩
  · rw [hw, State.writing_written_eq s hb, ht]
  · rw [hw, State.writing_writeFailed_eq s hb]

/-- Settles O27: `State.writing_written_eq` at measurement 5, whose frame is evaluated. -/
theorem endToEndRequestWithMeasurementFive : Obligations.EndToEndRequestWithMeasurementFive :=
  fun s ha ht hs hf hr hw hm => by
  have hb : answers [0x01, 0x04, 0x00, 0x00, 0x00, 0x01, 0x31, 0xCA] = true := by decide
  have hframe : (build (s.advance s.ports.now).measValue).toList = [0x01, 0x04, 0x02, 0x00, 0x05, 0x79, 0x33] := by
    rw [State.measValue, hm]
    decide +kernel
  rw [exec, execIterate_writing ha ht hs hf hr hb, hw, State.writing_written_eq s hb, hframe]
  exact ⟨_, rfl, rfl, ha.running, hm, rfl, rfl⟩

/-- Settles O28: `execRdIr0_classify` by the TX answer, its two end states field by field. -/
theorem readInputRegisterFrameIsAnswered : Obligations.ReadInputRegisterFrameIsAnswered := by
  refine ⟨fun qty lo hi s => execRdIr0_of_not_classify qty lo hi, fun qty lo hi s ha hp => ?_⟩
  rw [← measValue_eq, exec, execRdIr0_classify qty lo hi ha hp]
  refine ⟨fun hw => ?_, fun hw => ⟨s.draws + 1, Config.freeCount s.draws % 8, ?_⟩, fun hw => ?_⟩
  · rw [hw, State.answering_written_eq]
  · rw [hw, State.answering_writeFailed_eq]
  · rw [hw]

/-- Settles O29: the iteration comes to P_WRITE, where there is no answer. -/
theorem writeThatNeverReturnsIsStuck : Obligations.WriteThatNeverReturnsIsStuck := fun s b ha ht hs hf hr hb hw => by
  rw [exec, execIterate_writing ha ht hs hf hr hb, hw]

/-- Settles O32: the five ends of an iteration, each with its events and its measurement. -/
theorem iterationDoesEachThingAtMostOnce : Obligations.IterationDoesEachThingAtMostOnce := fun s t h => by
  obtain ⟨-, -, ho⟩ := iterateOutcome_of_next h
  cases ho with
  | stopped hs => exact ⟨⟨[], by simp, by decide⟩, fun _ => ⟨rfl, rfl⟩, by simp [hs]⟩
  | readFailed hs =>
    rw [State.readFailed_eq]
    exact ⟨⟨_, rfl, by simp [countReads, countWrites, countMons]⟩, by simp [hs], fun _ => ⟨rfl, rfl⟩⟩
  | dropped b hs =>
    rw [State.dropped_eq]
    exact ⟨⟨_, rfl, by simp [countReads, countWrites, countMons]⟩, by simp [hs], fun _ => ⟨rfl, rfl⟩⟩
  | answered b hs _ _ hb =>
    rw [State.writing_written_eq s hb]
    exact ⟨⟨_, rfl, by simp [countReads, countWrites, countMons]⟩, by simp [hs], fun _ => ⟨rfl, rfl⟩⟩
  | writeFailed b hs _ _ hb =>
    rw [State.writing_writeFailed_eq s hb]
    exact ⟨⟨_, rfl, by simp [countReads, countWrites, countMons]⟩, by simp [hs], fun _ => ⟨rfl, rfl⟩⟩

/-- Settles O33: of the five ends of an iteration, the answered one alone holds a MON, after its ChanWrite. -/
theorem monFiresExactlyAfterASuccessfulWrite : Obligations.MonFiresExactlyAfterASuccessfulWrite :=
  fun s t es h htrace req rsp => by
  obtain ⟨-, -, ho⟩ := iterateOutcome_of_next h
  cases ho with
  | stopped hs =>
    obtain rfl : [] = es := by simpa using htrace
    simp [hs]
  | readFailed hs hf hr =>
    rw [State.readFailed_eq] at htrace
    obtain rfl := List.append_cancel_left htrace
    simp [hr]
  | dropped b hs hf hr hl hb =>
    rw [State.dropped_eq] at htrace
    obtain rfl := List.append_cancel_left htrace
    refine ⟨iff_of_false (by simp) ?_, by simp⟩
    rintro ⟨-, -, hreq, hans, -⟩
    cases hr.symm.trans hreq
    simp [hb] at hans
  | answered b hs hf hr hb hw =>
    rw [State.writing_written_eq s hb] at htrace ⊢
    obtain rfl := List.append_cancel_left htrace
    have hmem (x y p f) :
        Event.mon req rsp ∈ [.chanRead x y, .chanWrite f, .mon b f, .pause p] ↔ req = b ∧ rsp = f := by
      simp
    rw [hmem]
    refine ⟨⟨?_, ?_⟩, ?_⟩
    · rintro ⟨rfl, rfl⟩
      exact ⟨hs, hw, hr, hb, rfl⟩
    · rintro ⟨-, -, hreq, -, hrsp⟩
      exact ⟨by simpa [hr, eq_comm] using hreq, hrsp⟩
    · rintro ⟨rfl, rfl⟩
      exact ⟨by simp [countMons], [_], [_], rfl⟩
  | writeFailed b hs hf hr hb hw =>
    rw [State.writing_writeFailed_eq s hb] at htrace
    obtain rfl := List.append_cancel_left htrace
    simp [hw]

/-- Settles O47: `fetch_frame` at P_CLASSIFY, and `execIterate_eq_exec_frame`. -/
theorem stepRunsTheDecodedFrame : Obligations.StepRunsTheDecodedFrame := by
  refine ⟨fun s i ha hp hd => ?_, fun s b i => execIterate_eq_exec_frame⟩
  have hd' : decode (.frame s.rxFrame) = .ok i := hd
  simp only [step, illFormed_eq_false fun _ => ha.measLegal, Bool.false_eq_true, if_false,
    fetch_frame ha.resetSeen hp, hd']

end Sys2Proof.Machine

/-! PROOFS. The whole machine: what an instruction that answers a next state did, what a step that answers one did, and
the rules every one of them keeps (10_state.md, 60_exceptions.md, 70_reset_and_hazards.md). -/

namespace Sys2Proof.Machine

/-! ### What an instruction can do -/

/-- The next state an instruction answers, with what it asks of the state before. An instruction that returns a value
puts it on RESULT and does nothing else: that is `result`, one constructor for the five of them. -/
inductive Effect (s : State) : Instr → State → Prop
  | reset (hm : s.resetSeen = true → s.meas.toNat ≤ 2000) (hf : timeFits s.cfg s.ports.now = true) :
      Effect s .reset (s.initialise s.ports.now)
  | crcInit (ha : Accepting s) : Effect s .crcInit (s.setCrcAcc Config.CRC_INIT)
  | crcByte (b : Byte) (ha : Accepting s) : Effect s (.crcByte b) (s.setCrcAcc (Machine.crcByte s.crcAcc b))
  | result (i : Instr) (r : Result) (ha : Accepting s) : Effect s i (s.putResult r)
  | advance (ha : Accepting s) (hf : timeFits s.cfg s.ports.now = true) :
      Effect s .advance (s.advance s.ports.now)
  | iterate (t : State) (ha : Accepting s) (ht : s.phase = .top) (ho : IterateOutcome s (.next t)) :
      Effect s .iterate t
  | frameAnswered (qty : Half) (lo hi : Byte) (ha : Accepting s) (hp : s.phase = .classify)
      (hw : s.ports.tx = some .ok) : Effect s (.rdIr0 qty lo hi) s.answering.written
  | frameWriteFailed (qty : Half) (lo hi : Byte) (ha : Accepting s) (hp : s.phase = .classify)
      (hw : s.ports.tx = some .fail) : Effect s (.rdIr0 qty lo hi) s.answering.writeFailed

theorem effect_reset {s t : State} (h : exec .reset s = .next t) : Effect s .reset t := by
  change execReset s = .next t at h
  unfold execReset at h
  split at h
  · cases h
  · rename_i hm
    split at h
    · rename_i hf
      cases h
      exact .reset (fun hr => Nat.le_of_not_lt fun hlt => hm ((illFormed_iff s).2 ⟨hr, hlt⟩)) hf
    · cases h

theorem effect_rdIr0 {s t : State} {qty : Half} {lo hi : Byte} (h : exec (.rdIr0 qty lo hi) s = .next t) :
    Effect s (.rdIr0 qty lo hi) t := by
  obtain ⟨ha, -⟩ := perform_eq_next h
  by_cases hp : s.phase = .classify
  · rw [exec, execRdIr0_classify qty lo hi ha hp] at h
    split at h
    · cases h
    · rename_i hw
      cases h
      exact .frameAnswered qty lo hi ha hp hw
    · rename_i hw
      cases h
      exact .frameWriteFailed qty lo hi ha hp hw
  · rw [exec, execRdIr0_of_not_classify qty lo hi ha hp] at h
    cases h

/-- An instruction whose meaning is to be performed or refused, and to answer `t` when it is performed. -/
theorem perform_next_eq_next {s t u : State} (h : s.perform (.next u) = .next t) : Accepting s ∧ u = t := by
  obtain ⟨ha, ho⟩ := perform_eq_next h
  cases ho
  exact ⟨ha, rfl⟩

theorem effect_of_exec {i : Instr} {s t : State} (h : exec i s = .next t) : Effect s i t := by
  cases i with
  | reset => exact effect_reset h
  | crcInit =>
    obtain ⟨ha, rfl⟩ := perform_next_eq_next h
    exact .crcInit ha
  | crcByte b =>
    obtain ⟨ha, rfl⟩ := perform_next_eq_next h
    exact .crcByte b ha
  | advance =>
    obtain ⟨ha, ho⟩ := perform_eq_next h
    split at ho
    · rename_i hf
      cases ho
      exact .advance ha hf
    · cases ho
  | build v =>
    obtain ⟨ha, ho⟩ := perform_eq_next h
    split at ho
    · cases ho
      exact .result _ _ ha
    · cases ho
  | iterate =>
    obtain ⟨ha, ht, ho⟩ := iterateOutcome_of_next h
    exact .iterate t ha ht ho
  | rdIr0 qty lo hi => exact effect_rdIr0 h
  | crcRead | crc16 | current | classify =>
    obtain ⟨ha, rfl⟩ := perform_next_eq_next h
    exact .result _ _ ha

/-- MEAS after an ITERATE is in range. -/
theorem IterateOutcome.measLegal {s t : State} (h : IterateOutcome s (.next t)) (ha : Accepting s) :
    t.meas.toNat ≤ 2000 := by
  have hadv := advance_measLegal ha.measLegal s.ports.now
  cases h with
  | stopped => exact ha.measLegal
  | readFailed => rw [State.readFailed_eq]; exact hadv
  | dropped => rw [State.dropped_eq]; exact hadv
  | answered b _ _ _ hb => rw [State.writing_written_eq s hb]; exact hadv
  | writeFailed b _ _ _ hb => rw [State.writing_writeFailed_eq s hb]; exact hadv

/-- What no iteration changes. -/
theorem IterateOutcome.frame {s t : State} (h : IterateOutcome s (.next t)) :
    t.crcAcc = s.crcAcc ∧ t.cfg = s.cfg ∧ t.resetSeen = s.resetSeen ∧ t.host = s.host ∧ t.ports = s.ports := by
  cases h with
  | stopped => exact ⟨rfl, rfl, rfl, rfl, rfl⟩
  | readFailed => rw [State.readFailed_eq]; exact ⟨rfl, rfl, rfl, rfl, rfl⟩
  | dropped => rw [State.dropped_eq]; exact ⟨rfl, rfl, rfl, rfl, rfl⟩
  | answered b _ _ _ hb => rw [State.writing_written_eq s hb]; exact ⟨rfl, rfl, rfl, rfl, rfl⟩
  | writeFailed b _ _ _ hb => rw [State.writing_writeFailed_eq s hb]; exact ⟨rfl, rfl, rfl, rfl, rfl⟩

/-! ### What an instruction leaves alone -/

theorem Effect.measLegal {i : Instr} {s t : State} (h : Effect s i t) : t.meas.toNat ≤ 2000 := by
  cases h with
  | reset => simp
  | advance ha => exact advance_measLegal ha.measLegal _
  | iterate _ ha _ ho => exact ho.measLegal ha
  | crcInit ha | crcByte _ ha | result _ _ ha => exact ha.measLegal
  | frameAnswered _ _ _ ha | frameWriteFailed _ _ _ ha => simpa using ha.measLegal

theorem Effect.writes_measurement {i : Instr} {s t : State} (h : Effect s i t)
    (hne : t.meas ≠ s.meas ∨ t.lastAdv ≠ s.lastAdv) : i = .reset ∨ i = .advance ∨ i = .iterate := by
  cases h with
  | reset | advance | iterate => simp
  | crcInit | crcByte | result | frameAnswered | frameWriteFailed => simp [State.putResult] at hne

theorem Effect.writes_crcAcc {i : Instr} {s t : State} (h : Effect s i t) (hne : t.crcAcc ≠ s.crcAcc) :
    i = .reset ∨ i = .crcInit ∨ ∃ b, i = .crcByte b := by
  cases h with
  | reset | crcInit | crcByte => simp
  | iterate _ _ _ ho =>
    obtain ⟨hcrc, -⟩ := ho.frame
    exact absurd hcrc hne
  | advance => exact absurd (State.advance_crcAcc s _) hne
  | result | frameAnswered | frameWriteFailed => simp [State.putResult] at hne

theorem Effect.writes_rxbuf {i : Instr} {s t : State} (h : Effect s i t)
    (hne : t.rxbuf ≠ s.rxbuf ∨ t.rxlen ≠ s.rxlen) :
    i = .reset ∨ (i = .iterate ∧ ∃ b, s.ports.rx = .bytes b ∧ s.ports.stop = false) := by
  cases h with
  | reset => exact .inl rfl
  | iterate _ _ _ ho =>
    cases ho with
    | stopped => simp at hne
    | readFailed => simp [State.readFailed] at hne
    | dropped b hs _ hr | answered b hs _ hr | writeFailed b hs _ hr => exact .inr ⟨rfl, b, hr, hs⟩
  | advance | crcInit | crcByte | result | frameAnswered | frameWriteFailed => simp [State.putResult] at hne

theorem Effect.writes_txbuf {i : Instr} {s t : State} (h : Effect s i t) (hne : t.txbuf ≠ s.txbuf) :
    i = .reset ∨ (i = .iterate ∧ ∃ b, s.ports.rx = .bytes b ∧ answers b = true) ∨
      ∃ (q : Half) (lo hi : Byte), i = .rdIr0 q lo hi := by
  cases h with
  | reset => exact .inl rfl
  | iterate _ _ _ ho =>
    cases ho with
    | stopped => simp at hne
    | readFailed => simp [State.readFailed] at hne
    | dropped => simp [State.dropped, State.afterRead] at hne
    | answered b _ _ hr hb | writeFailed b _ _ hr hb => exact .inr (.inl ⟨rfl, b, hr, hb⟩)
  | frameAnswered qty lo hi | frameWriteFailed qty lo hi => exact .inr (.inr ⟨qty, lo, hi, rfl⟩)
  | advance | crcInit | crcByte | result => simp [State.putResult] at hne

theorem Effect.writes_status {i : Instr} {s t : State} (h : Effect s i t) (hne : t.status ≠ s.status) :
    (i = .reset ∧ t.status = .run) ∨
    (i = .iterate ∧ s.ports.stop = true ∧ CleanEnd t) ∨
    (i = .iterate ∧ s.ports.stop = false ∧ s.ports.rx = .fail ∧ t.status = .faultRx ∧ t.phase = .halt) ∨
    ((i = .iterate ∨ ∃ (q : Half) (lo hi : Byte), i = .rdIr0 q lo hi) ∧
      s.ports.tx = some .fail ∧ t.status = .faultTx ∧ t.phase = .halt) := by
  cases h with
  | reset => exact .inl ⟨rfl, rfl⟩
  | iterate _ _ _ ho =>
    cases ho with
    | stopped hs => exact .inr (.inl ⟨rfl, hs, rfl, rfl⟩)
    | readFailed hs _ hr => exact .inr (.inr (.inl ⟨rfl, hs, hr, rfl, rfl⟩))
    | dropped => simp [State.dropped, State.afterRead] at hne
    | answered => simp [State.writing] at hne
    | writeFailed _ _ _ _ _ hw => exact .inr (.inr (.inr ⟨.inl rfl, hw, rfl, rfl⟩))
  | frameWriteFailed qty lo hi _ _ hw => exact .inr (.inr (.inr ⟨.inr ⟨qty, lo, hi, rfl⟩, hw, rfl, rfl⟩))
  | advance | crcInit | crcByte | result | frameAnswered => simp [State.putResult] at hne

/-! ### The invariant -/

theorem Inv.of_running {s : State} (hm : s.meas.toNat ≤ 2000) (hl : s.rxlen.toNat ≤ 8) (hp : s.phase = .top)
    (hs : s.status = .run) : Inv s :=
  ⟨fun _ => hm, fun _ => hl, fun _ => .inl hp, fun _ => by simp [hp, hs]⟩

theorem Inv.of_ended {s : State} (hm : s.meas.toNat ≤ 2000) (hl : s.rxlen.toNat ≤ 8) (hp : s.phase = .halt)
    (hs : s.status ≠ .run) : Inv s :=
  ⟨fun _ => hm, fun _ => hl, fun _ => .inr hp, fun _ => by simp [hp, hs]⟩

theorem IterateOutcome.inv {s t : State} (h : IterateOutcome s (.next t)) (hi : Inv s) (ha : Accepting s) : Inv t := by
  have hm := h.measLegal ha
  have hl := hi.rxlenLegal ha.resetSeen
  cases h with
  | stopped => exact .of_ended hm hl rfl (by simp)
  | readFailed => exact .of_ended hm (by simpa [State.readFailed] using hl) rfl (by simp [State.readFailed])
  | dropped b _ _ _ hle =>
    refine .of_running hm ?_ rfl (by simp [State.dropped, State.afterRead, ha.running])
    exact (rxlen_loadRx (s := (s.advance s.ports.now).emit (.chanRead 8 s.cfg.readTimeout)) hle).trans_le hle
  | answered b _ _ _ hb =>
    rw [State.writing_written_eq s hb] at hm ⊢
    exact .of_running hm (Nat.le_refl 8) rfl ha.running
  | writeFailed b _ _ _ hb =>
    rw [State.writing_writeFailed_eq s hb] at hm ⊢
    exact .of_ended hm (Nat.le_refl 8) rfl (by simp)

/-- An instruction performed between transactions keeps the invariant. -/
theorem Effect.inv {i : Instr} {s t : State} (h : Effect s i t) (hi : Inv s) : Inv t := by
  cases h with
  | reset => exact .of_running (by simp) (by simp) rfl rfl
  | crcInit | crcByte | result => exact ⟨hi.measLegal, hi.rxlenLegal, hi.atBoundary, hi.haltIffStopped⟩
  | advance ha =>
    exact .of_running (advance_measLegal ha.measLegal _) (by simpa using hi.rxlenLegal ha.resetSeen)
      (by simpa using hi.top_of_accepting ha) (by simpa using ha.running)
  | iterate _ ha _ ho => exact ho.inv hi ha
  | frameAnswered _ _ _ ha hp | frameWriteFailed _ _ _ ha hp =>
    rw [hi.top_of_accepting ha] at hp
    cases hp

/-! ### What a step can do -/

/-- The next state a step answers, by what it fetched. -/
inductive StepEnd (s : State) : State → Prop
  | idle (hh : s.host = []) : StepEnd s s
  | command (p : Ports) (rest : List Ports) (i : Instr) (t : State) (hh : s.host = p :: rest)
      (hd : decode (.command p.cmd) = .ok i) (he : exec i (s.latch p rest) = .next t) : StepEnd s t
  | frame (i : Instr) (t : State) (hr : s.resetSeen = true) (hp : s.phase = .classify) (he : exec i s = .next t) :
      StepEnd s t
  | unfinished (t : State) (hr : s.resetSeen = true) (ht : s.phase ≠ .top) (hh : s.phase ≠ .halt)
      (he : finishIteration s = .next t) : StepEnd s t

theorem stepEnd_of_nextTransaction {s t : State} (hm : s.illFormed = false) (hf : fetch s = s.nextTransaction)
    (h : step s = .next t) : StepEnd s t := by
  unfold step at h
  rw [hm, if_neg Bool.false_ne_true, hf, State.nextTransaction] at h
  cases hh : s.host with
  | nil =>
    rw [hh] at h
    cases h
    exact .idle hh
  | cons p rest =>
    simp only [hh] at h
    split at h
    · exact .command p rest _ t hh ‹_› h
    · cases h

theorem stepEnd_of_step {s t : State} (h : step s = .next t) : StepEnd s t := by
  cases hm : s.illFormed with
  | true => simp [step, hm] at h
  | false =>
    by_cases hb : s.resetSeen = true → s.phase = .top ∨ s.phase = .halt
    · exact stepEnd_of_nextTransaction hm (fetch_nextTransaction hb) h
    · obtain ⟨hr, ht, hh⟩ : s.resetSeen = true ∧ s.phase ≠ .top ∧ s.phase ≠ .halt := by
        simpa using hb
      by_cases hp : s.phase = .classify
      · simp only [step, hm, Bool.false_eq_true, if_false, fetch_frame hr hp] at h
        split at h
        · exact .frame _ t hr hp h
        · exact .unfinished t hr ht hh h
      · have hf : fetch s = .unfinished := by
          unfold fetch
          cases hq : s.phase with
          | top | halt | classify => contradiction
          | adv | read | build | write | yield => simp [hr]
        simp only [step, hm, Bool.false_eq_true, if_false, hf] at h
        exact .unfinished t hr ht hh h

/-- Between transactions a step is idle or performs a command. -/
theorem step_keeps_inv {s t : State} (hi : Inv s) (h : step s = .next t) : Inv t := by
  cases stepEnd_of_step h with
  | idle => exact hi
  | command p rest i t hh hd he => exact (effect_of_exec he).inv (hi.latch p rest)
  | frame i t hr hp => rcases hi.atBoundary hr with h | h <;> simp [hp] at h
  | unfinished t hr ht hh => rcases hi.atBoundary hr with h | h <;> contradiction

/-! ### What a step keeps and what it only extends -/

/-- `t` may follow `s`: the parameters and a RESET once seen stay, the outputs grow at their end. -/
structure Extends (s t : State) : Prop where
  cfg : t.cfg = s.cfg
  resetSeen : s.resetSeen = true → t.resetSeen = true
  trace : s.trace <+: t.trace
  wire : s.wire <+: t.wire

theorem Extends.refl (s : State) : Extends s s :=
  ⟨rfl, id, List.prefix_rfl, List.prefix_rfl⟩

theorem Extends.trans {s t u : State} (h : Extends s t) (h' : Extends t u) : Extends s u :=
  ⟨h'.cfg.trans h.cfg, fun hr => h'.resetSeen (h.resetSeen hr), h.trace.trans h'.trace, h.wire.trans h'.wire⟩

theorem extends_goto (s : State) (p : Phase) : Extends s (s.goto p) :=
  ⟨rfl, id, List.prefix_rfl, List.prefix_rfl⟩

theorem extends_emit (s : State) (e : Event) : Extends s (s.emit e) :=
  ⟨rfl, id, List.prefix_append _ _, List.prefix_rfl⟩

theorem extends_setStatus (s : State) (c : Status) : Extends s (s.setStatus c) :=
  ⟨rfl, id, List.prefix_rfl, List.prefix_rfl⟩

theorem extends_raiseFatal (s : State) (c : Status) : Extends s (s.raiseFatal c) :=
  ⟨rfl, id, List.prefix_rfl, List.prefix_rfl⟩

theorem extends_loadRx (s : State) (b : List Byte) : Extends s (s.loadRx b) :=
  ⟨rfl, id, List.prefix_rfl, List.prefix_rfl⟩

theorem extends_loadTx (s : State) (f : Vector Byte 7) : Extends s (s.loadTx f) :=
  ⟨rfl, id, List.prefix_rfl, List.prefix_rfl⟩

theorem extends_deliver (s : State) (n used : Nat) : Extends s (s.deliver n used) :=
  ⟨rfl, id, List.prefix_rfl, List.prefix_append _ _⟩

theorem extends_latch (s : State) (p : Ports) (rest : List Ports) : Extends s (s.latch p rest) :=
  ⟨rfl, id, List.prefix_rfl, List.prefix_rfl⟩

theorem extends_advance (s : State) (now : Nat) : Extends s (s.advance now) := by
  obtain ⟨m, t, h⟩ := exists_advance_eq_setMeas s now
  rw [h]
  exact ⟨rfl, id, List.prefix_rfl, List.prefix_rfl⟩

theorem extends_phaseStep {s t : State} (h : phaseStep s = .next t) : Extends s t := by
  cases hp : s.phase with
  | top =>
    rcases phaseTop_cases (phaseStep_top hp ▸ h) with ⟨-, rfl⟩ | ⟨-, rfl⟩
    · exact (extends_setStatus _ _).trans (extends_goto _ _)
    · exact extends_goto _ _
  | adv =>
    obtain ⟨-, rfl⟩ := phaseAdv_eq_next (phaseStep_adv hp ▸ h)
    exact (extends_advance _ _).trans (extends_goto _ _)
  | read =>
    rcases phaseRead_cases (phaseStep_read hp ▸ h) with ⟨-, rfl⟩ | ⟨b, -, -, rfl⟩ | ⟨b, -, -, rfl⟩
    · exact (extends_emit _ _).trans (extends_raiseFatal _ _)
    · exact ((extends_emit _ _).trans (extends_loadRx _ b)).trans (extends_goto _ _)
    · exact ((extends_emit _ _).trans (extends_loadRx _ b)).trans (extends_goto _ _)
  | classify =>
    rcases phaseClassify_cases (phaseStep_classify hp ▸ h) with ⟨-, rfl⟩ | ⟨-, rfl⟩ <;> exact extends_goto _ _
  | build =>
    rw [phaseStep_build hp] at h
    cases h
    exact (extends_loadTx _ _).trans (extends_goto _ _)
  | write =>
    rcases phaseWrite_cases (phaseStep_write hp ▸ h) with ⟨-, rfl⟩ | ⟨-, rfl⟩
    · exact (((extends_emit _ _).trans (extends_deliver _ _ _)).trans (extends_emit _ _)).trans (extends_goto _ _)
    · exact ((extends_emit _ _).trans (extends_deliver _ _ _)).trans (extends_raiseFatal _ _)
  | yield =>
    rw [phaseStep_yield hp] at h
    cases h
    exact (extends_emit _ _).trans (extends_goto _ _)
  | halt =>
    simp only [phaseStep, hp] at h
    cases h
    exact .refl s

theorem extends_runPhases {k : Nat} {s t : State} (h : runPhases k s = .next t) : Extends s t := by
  induction k generalizing s with
  | zero =>
    cases h
    exact .refl _
  | succ k ih =>
    rw [runPhases] at h
    split at h
    · cases h
      exact .refl _
    · obtain ⟨u, hu, hrun⟩ := andThen_eq_next h
      exact (extends_phaseStep hu).trans (ih hrun)

theorem extends_exec {i : Instr} {s t : State} (h : exec i s = .next t) : Extends s t := by
  cases effect_of_exec h with
  | reset => exact ⟨rfl, fun _ => rfl, List.prefix_rfl, List.prefix_rfl⟩
  | crcInit | crcByte => exact ⟨rfl, id, List.prefix_rfl, List.prefix_rfl⟩
  | result => exact extends_emit _ _
  | advance => exact extends_advance _ _
  | iterate _ _ ht =>
    obtain ⟨-, ho⟩ := perform_eq_next h
    rw [if_pos ht] at ho
    obtain ⟨u, hu, hrun⟩ := andThen_eq_next ho
    exact (extends_phaseStep hu).trans (extends_runPhases hrun)
  | frameAnswered _ _ _ _ hp | frameWriteFailed _ _ _ _ hp =>
    obtain ⟨-, ho⟩ := perform_eq_next h
    rw [if_pos hp] at ho
    exact (extends_goto _ _).trans (extends_runPhases ho)

theorem extends_step {s t : State} (h : step s = .next t) : Extends s t := by
  cases stepEnd_of_step h with
  | idle => exact .refl s
  | command p rest i t _ _ he => exact (extends_latch s p rest).trans (extends_exec he)
  | frame i t _ _ he => exact extends_exec he
  | unfinished t _ _ _ he =>
    obtain ⟨-, ho⟩ := perform_eq_next he
    exact extends_runPhases ho

/-! ### When an instruction is refused -/

/-- Every instruction but RESET asks first whether the state accepts commands (R136). -/
theorem exec_of_refusal {i : Instr} {s : State} {r : Refusal} (hi : i ≠ .reset) (h : s.refusal = some r) :
    exec i s = .refused r := by
  have hperform (o : Out) : s.perform o = .refused r := by simp [State.perform, h]
  cases i with
  | reset => exact absurd rfl hi
  | crcInit | crcByte | crcRead | crc16 | advance | current | classify | build | iterate | rdIr0 =>
    exact hperform _

theorem exec_refused_of_not_accepting {i : Instr} {s : State} (hi : i ≠ .reset) (h : ¬ Accepting s) :
    ∃ r, exec i s = .refused r := by
  obtain ⟨r, hr⟩ := Option.ne_none_iff_exists'.1 (mt (refusal_eq_none_iff s).1 h)
  exact ⟨r, exec_of_refusal hi hr⟩

theorem not_accepting_of_halted {s : State} (h : s.phase = .halt ∨ s.status ≠ .run) : ¬ Accepting s := fun ha =>
  h.elim ha.notHalted (absurd ha.running)

theorem refusal_of_not_resetSeen {s : State} (h : s.resetSeen = false) : s.refusal = some .beforeReset :=
  if_pos h

theorem refusal_of_illFormed {s : State} (h : s.illFormed = true) : s.refusal = some .illFormedMeas := by
  obtain ⟨hr, -⟩ := (illFormed_iff s).1 h
  simp [State.refusal, hr, h]

theorem exec_of_illFormed {s : State} (h : s.illFormed = true) (i : Instr) : exec i s = .refused .illFormedMeas := by
  by_cases hi : i = .reset
  · subst hi
    exact if_pos h
  · exact exec_of_refusal hi (refusal_of_illFormed h)

/-- RESET in every legal state, by whether the time counter holds NOW (R150, D3). -/
theorem exec_reset {s : State} (hm : s.resetSeen = true → s.meas.toNat ≤ 2000) :
    exec .reset s =
      if timeFits s.cfg s.ports.now then .next (s.initialise s.ports.now) else .refused .timeWrap := by
  rw [exec, execReset, illFormed_eq_false hm, if_neg Bool.false_ne_true]

theorem accepting_initialise (s : State) (now : Nat) : Accepting (s.initialise now) :=
  ⟨rfl, by simp, rfl, by simp⟩

/-! ### The statements: the invariant and the writers -/

/-- Settles O48: `step_keeps_inv`. -/
theorem everyStepKeepsTheInvariant : Obligations.EveryStepKeepsTheInvariant :=
  fun _ _ => step_keeps_inv

/-- Settles O49: the reset values by evaluation, and a premise that fails before the first RESET. -/
theorem resetMeetsTheInvariant : Obligations.ResetMeetsTheInvariant :=
  ⟨.of_running (by decide) (by decide) rfl rfl, fun _ => inv_of_not_resetSeen⟩

/-- Settles O50: `Effect.writes_measurement` and `Effect.measLegal`. -/
theorem onlyAdvanceIterateAndResetWriteTheMeasurement : Obligations.OnlyAdvanceIterateAndResetWriteTheMeasurement :=
  fun _ _ _ h => ⟨(effect_of_exec h).writes_measurement, (effect_of_exec h).measLegal⟩

/-- Settles O51: `Effect.writes_crcAcc`. -/
theorem onlyStreamingCommandsWriteCrcAcc : Obligations.OnlyStreamingCommandsWriteCrcAcc :=
  fun _ _ _ h => (effect_of_exec h).writes_crcAcc

/-- Settles O52: `Effect.writes_rxbuf` and `Effect.writes_txbuf`. -/
theorem onlyAnIterationWritesTheBuffers : Obligations.OnlyAnIterationWritesTheBuffers :=
  fun _ _ _ h => ⟨(effect_of_exec h).writes_rxbuf, (effect_of_exec h).writes_txbuf⟩

/-- Settles O53: `Effect.writes_status`. -/
theorem statusChangesOnlyByResetStopOrFatal : Obligations.StatusChangesOnlyByResetStopOrFatal :=
  fun _ _ _ h => (effect_of_exec h).writes_status

/-- Settles O54: `extends_step`. -/
theorem parametersStayAndOutputsOnlyGrow : Obligations.ParametersStayAndOutputsOnlyGrow := fun s t h => by
  obtain ⟨hcfg, hreset, ⟨es, hes⟩, ⟨bs, hbs⟩⟩ := extends_step h
  exact ⟨hcfg, hreset, ⟨es, hes.symm⟩, ⟨bs, hbs.symm⟩⟩

/-! ### The statements: RESET, halting, refusal -/

/-- Settles O18: BUILD's own check follows the state's, so a state that accepts commands refuses it by name. -/
theorem buildAbove2000IsRefused : Obligations.BuildAbove2000IsRefused := by
  have hbuild (v : Half) (s : State) (ha : Accepting s) (hv : 2000 < v.toNat) :
      exec (.build v) s = .refused .buildOutOfRange := by
    rw [exec, execBuild, perform_of_accepting ha, if_neg (Nat.not_le.2 hv)]
  refine ⟨fun v s hv => ?_, hbuild, fun v => decide_eq_true_iff⟩
  by_cases ha : Accepting s
  · exact ⟨_, hbuild v s ha hv⟩
  · exact exec_refused_of_not_accepting (by simp) ha

/-- Settles O34: `State.initialise` writes exactly these fields. -/
theorem resetGivesEveryRegisterItsValue : Obligations.ResetGivesEveryRegisterItsValue :=
  ⟨rfl, fun s hm hf => ⟨_, _, _, s.initialise s.ports.now, by rw [exec_reset hm, if_pos hf],
    accepting_initialise s _, rfl⟩⟩

/-- Settles O35: `State.reset` by evaluation, RESET on `State.powerOn` by `exec_reset`. -/
theorem resetStateIsWhatResetLeaves : Obligations.ResetStateIsWhatResetLeaves :=
  ⟨rfl, rfl, rfl, rfl, rfl, rfl, _, _, _, by rw [exec_reset (by decide), if_pos (by rfl)]; rfl⟩

/-- Settles O36: a halted state does not accept commands. -/
theorem haltedMachineRefusesAllButReset : Obligations.HaltedMachineRefusesAllButReset :=
  fun _ _ hi h => exec_refused_of_not_accepting hi (not_accepting_of_halted h)

/-- Settles O37: of the four kinds of step, P_HALT leaves the idle one and a command's, and only RESET is performed. -/
theorem onlyResetLeavesHalt : Obligations.OnlyResetLeavesHalt := fun s t hp h => by
  cases stepEnd_of_step h with
  | idle => exact .inl rfl
  | command p rest i t hh hd he =>
    by_cases hi : i = .reset
    · subst hi
      exact .inr ⟨p, rest, hh, hd, he⟩
    · obtain ⟨r, hr⟩ := exec_refused_of_not_accepting hi (not_accepting_of_halted (s := s.latch p rest) (.inl hp))
      rw [hr] at he
      cases he
  | frame i t hr hc => simp [hp] at hc
  | unfinished t hr ht hh => exact absurd hp hh

/-- Settles O38: the refusal before the first RESET comes first, and RESET is `State.initialise`. -/
theorem onlyResetStartsARun : Obligations.OnlyResetStartsARun := by
  have hrefused (i : Instr) (s : State) (hs : s.resetSeen = false) (hi : i ≠ .reset) :
      exec i s = .refused .beforeReset := exec_of_refusal hi (refusal_of_not_resetSeen hs)
  refine ⟨hrefused, fun s p rest i hs hh hd => ?_⟩
  have hstep : step s = exec i (s.latch p rest) :=
    step_command (illFormed_eq_false (by simp [hs])) (by simp [hs]) hh hd
  refine ⟨fun hi => hstep.trans (hrefused i _ hs hi), fun hi hf => ?_⟩
  subst hi
  rw [exec_reset (by simp [hs])] at hstep
  refine ⟨(s.latch p rest).initialise p.now, hstep.trans (if_pos hf), accepting_initialise _ _, ?_, rfl, rfl, rfl, rfl⟩
  exact .of_running (by simp) (by simp) rfl rfl

/-- Settles O39: `step` and every instruction look at MEAS first. -/
theorem illFormedMeasHasNoStep : Obligations.IllFormedMeasHasNoStep := fun s hr hm => by
  have h : s.illFormed = true := (illFormed_iff s).2 ⟨hr, hm⟩
  exact ⟨if_pos h, exec_of_illFormed h⟩

/-- Settles O40: `timeFits` is looked at by RESET, ADVANCE and P_ADV; the last two clauses are its two cases. -/
theorem wrappingTimeIsRefused : Obligations.WrappingTimeIsRefused := by
  refine ⟨fun s hm hf => ?_, fun s ha hf => ⟨?_, fun ht hs => execIterate_timeWrap ha ht hs hf⟩, fun c now hc => ?_,
    fun c now w hc => ?_⟩
  · rw [exec_reset hm, hf, if_neg Bool.false_ne_true]
  · rw [exec, execAdvance, perform_of_accepting ha, hf, if_neg Bool.false_ne_true]
  · simp [timeFits, hc]
  · simp [timeFits, hc]

/-! ### The statements: the step -/

/-- Settles O41: `exists_decodeCommand_error_iff`, and the step that fetches such a word. -/
theorem reservedCommandWordsAreRefused : Obligations.ReservedCommandWordsAreRefused := by
  refine ⟨exists_decodeCommand_error_iff, fun s p rest r hi hh hd => ?_⟩
  simp only [step, illFormed_eq_false hi.measLegal, Bool.false_eq_true, if_false, fetch_command hi.atBoundary hh, hd]

/-- Settles O46: `step_command` and `fetch_idle`. -/
theorem stepPerformsTheDecodedCommand : Obligations.StepPerformsTheDecodedCommand := by
  refine ⟨fun s p rest i hi => step_command (illFormed_eq_false hi.measLegal) hi.atBoundary, fun s hi hh => ?_⟩
  simp only [step, illFormed_eq_false hi.measLegal, Bool.false_eq_true, if_false, fetch_idle hi.atBoundary hh]

theorem append_eq_zero_iff (a b : Byte) : a ++ b = 0x0000#16 ↔ a = 0 ∧ b = 0 := by
  constructor
  · intro h
    exact ⟨by rw [← hiByte_append a b, h]; rfl, by rw [← loByte_append a b, h]; rfl⟩
  · rintro ⟨rfl, rfl⟩
    rfl

/-- The classifier on an 8-byte buffer, byte by byte (R90). -/
theorem classify_frame_iff (f : Vector Byte 8) :
    classify f.toList = .accepted ↔ f[0] = 0x01 ∧ f[1] = 0x04 ∧ f[2] = 0x00 ∧ f[3] = 0x00 := by
  simp [classify_eq_accepted_iff_getElem?]

/-- Settles O58: the two addresses of an Accepted frame are 0x0000, the one that `State.inputRegister` answers. -/
theorem onlyRegisterZeroIsImplemented : Obligations.OnlyRegisterZeroIsImplemented := by
  refine fun s f h0 h1 => ⟨?_, fun a v h => ?_⟩
  · rw [classify_frame_iff, h0, h1, State.inputRegister, frameStart, Config.START_ADDR, ← append_eq_zero_iff]
    by_cases h : f[2] ++ f[3] = 0x0000#16 <;> simp [h]
  · unfold State.inputRegister at h
    split at h
    · rename_i ha
      cases h
      exact ⟨ha, by rw [State.measValue, BitVec.toNat_setWidth_of_le (by decide)]⟩
    · cases h

/-- Settles O59: the codes by evaluation, each value and each code in turn. -/
theorem statusAndPhaseCodes : Obligations.StatusAndPhaseCodes := by
  refine ⟨rfl, rfl, rfl, rfl, rfl, rfl, rfl, rfl, rfl, rfl, rfl, rfl, by decide, fun x => ?_, by decide, fun x => ?_⟩
  · cases x <;> rfl
  · cases x <;> rfl

end Sys2Proof.Machine

/-! PROOFS. What cannot be seen (10_state.md section 4, 44_loop.md section 3): two states that differ in registers an
observer forgets have outcomes that differ in no more. -/

namespace Sys2Proof.Machine

/-! ### Outcomes seen through a map -/

@[simp] theorem mapOut_next (f : State → State) (s : State) : mapOut f (.next s) = .next (f s) := rfl

/-- Two states that are refused alike perform alike what they perform alike. -/
theorem mapOut_perform {f : State → State} {s s' : State} {o o' : Out} (hr : s'.refusal = s.refusal)
    (ho : mapOut f o' = mapOut f o) : mapOut f (s'.perform o') = mapOut f (s.perform o) := by
  unfold State.perform
  rw [hr]
  cases s.refusal with
  | none => exact ho
  | some r => rfl

/-- What the read leaves in RXBUF depends on the bytes read and the free values only (R113, log 5). -/
theorem afterRead_rxbuf_congr {s s' : State} (h : s'.draws = s.draws) (b : List Byte) :
    (s'.afterRead b).rxbuf = (s.afterRead b).rxbuf := by
  simp [State.afterRead, State.byteOr, h]

/-- Two states under the same ports in which the five ends of an iteration look alike have the same ITERATE. -/
theorem mapOut_execIterate {f : State → State} {s s' : State} (hr : s'.refusal = s.refusal)
    (hphase : s'.phase = s.phase) (hports : s'.ports = s.ports) (hcfg : s'.cfg = s.cfg)
    (hstopped : f ((s'.setStatus .stopped).goto .halt) = f ((s.setStatus .stopped).goto .halt))
    (hfailed : f s'.readFailed = f s.readFailed) (hdropped : ∀ b, f (s'.dropped b) = f (s.dropped b))
    (hwritten : ∀ b, answers b = true → f (s'.writing b).written = f (s.writing b).written)
    (hwriteFailed : ∀ b, answers b = true → f (s'.writing b).writeFailed = f (s.writing b).writeFailed) :
    mapOut f (execIterate s') = mapOut f (execIterate s) := by
  by_cases ha : Accepting s
  · have ha' : Accepting s' := (refusal_eq_none_iff s').1 (hr.trans ((refusal_eq_none_iff s).2 ha))
    by_cases ht : s.phase = .top
    · have ht' : s'.phase = .top := hphase.trans ht
      have h := iterateOutcome_execIterate ha ht
      generalize execIterate s = o at h
      cases h with
      | stopped hs => rw [execIterate_stop ha' ht' (hports ▸ hs), mapOut_next, mapOut_next, hstopped]
      | timeWrap hs hf => rw [execIterate_timeWrap ha' ht' (hports ▸ hs) (by rwa [hports, hcfg])]
      | readFailed hs hf hr =>
        rw [execIterate_readFailed ha' ht' (hports ▸ hs) (by rwa [hports, hcfg]) (hports ▸ hr), mapOut_next,
          mapOut_next, hfailed]
      | rxTooLong b hs hf hr hl =>
        rw [execIterate_rxTooLong ha' ht' (hports ▸ hs) (by rwa [hports, hcfg]) (hports ▸ hr) hl]
      | dropped b hs hf hr hl hb =>
        rw [execIterate_dropped ha' ht' (hports ▸ hs) (by rwa [hports, hcfg]) (hports ▸ hr) hl hb, mapOut_next,
          mapOut_next, hdropped]
      | stuck b hs hf hr hb hw =>
        rw [execIterate_writing ha' ht' (hports ▸ hs) (by rwa [hports, hcfg]) (hports ▸ hr) hb, hports, hw]
      | answered b hs hf hr hb hw =>
        rw [execIterate_writing ha' ht' (hports ▸ hs) (by rwa [hports, hcfg]) (hports ▸ hr) hb, hports, hw]
        exact congrArg Host.Outcome.next (hwritten b hb)
      | writeFailed b hs hf hr hb hw =>
        rw [execIterate_writing ha' ht' (hports ▸ hs) (by rwa [hports, hcfg]) (hports ▸ hr) hb, hports, hw]
        exact congrArg Host.Outcome.next (hwriteFailed b hb)
    · rw [execIterate_of_not_top ha ht, execIterate_of_not_top ha' (hphase ▸ ht)]
  · obtain ⟨r, h⟩ := Option.ne_none_iff_exists'.1 (mt (refusal_eq_none_iff s).1 ha)
    simp only [execIterate, State.perform, h, hr]

/-! ### LAST_ADV (R21) -/

/-- Two times of the last advance that agree on whether T1S ticks have passed (R80). -/
theorem advance_meas_of_agree {s : State} {t now : Nat}
    (h : (s.cfg.t1s : Int) ≤ (now : Int) - (s.lastAdv : Int) ↔ (s.cfg.t1s : Int) ≤ (now : Int) - (t : Int)) :
    ({ s with lastAdv := t }.advance now).meas = (s.advance now).meas := by
  by_cases he : (s.cfg.t1s : Int) ≤ (now : Int) - (s.lastAdv : Int)
  · rw [State.advance_of_elapsed (s := s) he, State.advance_of_elapsed (s := { s with lastAdv := t }) (h.1 he)]
    rfl
  · rw [State.advance_of_not_elapsed (s := s) he,
      State.advance_of_not_elapsed (s := { s with lastAdv := t }) (mt h.2 he)]

theorem forgetLastAdv_execIterate {s : State} {t : Nat}
    (hm : ({ s with lastAdv := t }.advance s.ports.now).meas = (s.advance s.ports.now).meas) :
    mapOut forgetLastAdv (execIterate { s with lastAdv := t }) = mapOut forgetLastAdv (execIterate s) := by
  have hread (b) : ({ s with lastAdv := t }.afterRead b).rxbuf = (s.afterRead b).rxbuf :=
    afterRead_rxbuf_congr (s := s) (s' := { s with lastAdv := t }) rfl b
  refine mapOut_execIterate rfl rfl rfl rfl rfl ?_ (fun b => ?_) (fun b hb => ?_) (fun b hb => ?_)
  · simp [State.readFailed_eq, forgetLastAdv, hm]
  · simp [State.dropped_eq, forgetLastAdv, hm, hread]
  · simp [State.writing_written_eq _ hb, forgetLastAdv, hm, hread, State.measValue]
  · simp [State.writing_writeFailed_eq _ hb, forgetLastAdv, hm, hread, State.measValue]

theorem forgetLastAdv_exec {s : State} {t : Nat} (i : Instr)
    (h : (s.cfg.t1s : Int) ≤ (s.ports.now : Int) - (s.lastAdv : Int) ↔
      (s.cfg.t1s : Int) ≤ (s.ports.now : Int) - (t : Int)) :
    mapOut forgetLastAdv (exec i { s with lastAdv := t }) = mapOut forgetLastAdv (exec i s) := by
  have hm := advance_meas_of_agree h
  cases i with
  | reset => rfl
  | iterate => exact forgetLastAdv_execIterate hm
  | advance =>
    refine mapOut_perform rfl ?_
    cases timeFits s.cfg s.ports.now with
    | true => simp [forgetLastAdv, hm]
    | false => simp
  | rdIr0 qty lo hi =>
    refine mapOut_perform rfl ?_
    by_cases hp : s.phase = .classify
    · simp only [hp, if_true, runPhases_goto_build]
      cases s.ports.tx with
      | none => rfl
      | some a =>
        cases a with
        | ok => simp [State.answering_written_eq, forgetLastAdv, State.measValue]
        | fail => simp [State.answering_writeFailed_eq, forgetLastAdv, State.measValue]
    · simp [hp]
  | build v =>
    refine mapOut_perform rfl ?_
    by_cases hv : v.toNat ≤ 2000 <;> simp [hv, forgetLastAdv, State.putResult, State.emit]
  | crcInit | crcByte | crcRead | crc16 | current | classify => exact mapOut_perform rfl rfl

/-! ### The buffers and CRC_ACC (R42, R120, D25) -/

/-- ADVANCE does not look at the buffers or CRC_ACC. -/
theorem advance_with_buffers (s : State) (rb : Vector Byte 8) (rl : BitVec 4) (tb : Vector Byte 7) (a : Half)
    (now : Nat) :
    let s' : State := { s with rxbuf := rb, rxlen := rl, txbuf := tb, crcAcc := a }
    (s'.advance now).meas = (s.advance now).meas ∧ (s'.advance now).lastAdv = (s.advance now).lastAdv := by
  intro s'
  rcases advance_cases s now with ⟨h, e⟩ | ⟨h, e⟩
  · rw [e, State.advance_of_elapsed (s := s') h]
    exact ⟨rfl, rfl⟩
  · rw [e, State.advance_of_not_elapsed (s := s') h]
    exact ⟨rfl, rfl⟩

theorem forgetBuffers_execIterate (s : State) (rb : Vector Byte 8) (rl : BitVec 4) (tb : Vector Byte 7) (a : Half) :
    mapOut forgetBuffers (execIterate { s with rxbuf := rb, rxlen := rl, txbuf := tb, crcAcc := a }) =
      mapOut forgetBuffers (execIterate s) := by
  obtain ⟨hm, hl⟩ := advance_with_buffers s rb rl tb a s.ports.now
  refine mapOut_execIterate rfl rfl rfl rfl rfl ?_ (fun b => ?_) (fun b hb => ?_) (fun b hb => ?_)
  · simp [State.readFailed_eq, forgetBuffers, hm, hl]
  · simp [State.dropped_eq, forgetBuffers, hm, hl]
  · simp [State.writing_written_eq _ hb, forgetBuffers, hm, hl, State.measValue]
  · simp [State.writing_writeFailed_eq _ hb, forgetBuffers, hm, hl, State.measValue]

/-! ### The statements -/

/-- Settles O55: `forgetLastAdv_exec`. -/
theorem lastAdvIsHidden : Obligations.LastAdvIsHidden :=
  fun i _ _ => forgetLastAdv_exec i

/-- Settles O56: `forgetBuffers_execIterate`. -/
theorem iterationForgetsEarlierFrames : Obligations.IterationForgetsEarlierFrames :=
  forgetBuffers_execIterate

end Sys2Proof.Machine

/-! PROOFS. Laws of the functions of CHK, DST and RSB (40_checksum.md, 41_device_state.md, 43_builder.md). -/

namespace Sys2Proof.Machine

/-! ### The checksum of a frame with its checksum -/

/-- Steps on a number whose low bits are 0 only shift (R70). -/
theorem crcStep_iterate_toNat {n k : Nat} {a : Half} (h : a.toNat = 2 ^ n * k) : (crcStep^[n] a).toNat = k := by
  induction n generalizing a with
  | zero => simpa using h
  | succ n ih =>
    rw [Function.iterate_succ_apply]
    refine ih ?_
    have heven : a.toNat = 2 * (2 ^ n * k) := by rw [h, pow_succ]; ring
    rw [crcStep_toNat, if_neg (by omega)]
    omega

/-- Folding in the low byte of the accumulator leaves its high byte. -/
theorem crcByte_loByte_toNat (c : Half) : (crcByte c (loByte c)).toNat = c.toNat / 256 := by
  rw [crcByte_eq_iterate]
  refine crcStep_iterate_toNat ?_
  have hlow : c ^^^ BitVec.ofNat 16 (loByte c).toNat = (c >>> 8) <<< 8 := by
    rw [BitVec.ofNat_toNat]
    ext i hi
    simp only [BitVec.getElem_xor, BitVec.getElem_setWidth, BitVec.getElem_shiftLeft, loByte,
      BitVec.getLsbD_extractLsb', Nat.zero_add, BitVec.getLsbD_eq_getElem hi]
    by_cases h : i < 8
    · simp [h]
    · have hback : 8 + (i - 8) = i := by omega
      simp [h, hback, BitVec.getLsbD_eq_getElem hi]
  have hc := c.isLt
  rw [hlow, BitVec.toNat_shiftLeft, BitVec.toNat_ushiftRight, Nat.shiftLeft_eq, Nat.shiftRight_eq_div_pow]
  omega

/-- Folding a byte into an accumulator that holds just that byte leaves 0. -/
theorem crcByte_self {c : Half} {b : Byte} (h : c.toNat = b.toNat) : crcByte c b = 0 := by
  have hc : c = BitVec.ofNat 16 b.toNat := by rw [← h, BitVec.ofNat_toNat, BitVec.setWidth_eq]
  rw [crcByte_eq_iterate, ← hc, BitVec.xor_self]
  exact BitVec.eq_of_toNat_eq (crcStep_iterate_toNat rfl)

theorem crc_append_crcBytes (s : List Byte) : crc (s ++ (crcBytes (crc s)).toList) = 0 := by
  have hhi : (hiByte (crc s)).toNat = (crc s).toNat / 256 := by
    have := (crc s).isLt
    rw [hiByte_eq_ofNat, BitVec.toNat_ofNat]
    omega
  rw [crc_append]
  change crcByte (crcByte (crc s) (loByte (crc s))) (hiByte (crc s)) = 0
  exact crcByte_self ((crcByte_loByte_toNat (crc s)).trans hhi.symm)

/-! ### The rate of ADVANCE -/

/-- ADVANCEs before T1S ticks have passed change nothing (R80). -/
theorem foldl_advance_early {s : State} {ts : List Nat} (h : ∀ t ∈ ts, t < s.lastAdv + s.cfg.t1s) :
    ts.foldl State.advance s = s := by
  induction ts with
  | nil => rfl
  | cons t ts ih =>
    have ht := h t List.mem_cons_self
    have hearly : ¬ (s.cfg.t1s : Int) ≤ s.elapsed t := by
      unfold State.elapsed
      omega
    rw [List.foldl_cons, State.advance_of_not_elapsed hearly]
    exact ih fun u hu => h u (List.mem_cons_of_mem t hu)

/-- ADVANCEs d ticks apart increment at the first multiple of d that is at least T1S (R82). -/
theorem foldl_advance_every {s : State} {d k : Nat} (hk : s.cfg.t1s ≤ k * d)
    (hk1 : (k - 1) * d < s.cfg.t1s) :
    ((List.range k).map fun j => s.lastAdv + (j + 1) * d).foldl State.advance s =
      s.setMeas (measSucc s.meas) (s.lastAdv + k * d) := by
  obtain ⟨n, rfl⟩ : ∃ n, k = n + 1 := ⟨k - 1, by
    have hpos := s.cfg.t1sPos
    have hne : k ≠ 0 := by rintro rfl; omega
    omega⟩
  have hearly : ∀ t ∈ (List.range n).map fun j => s.lastAdv + (j + 1) * d, t < s.lastAdv + s.cfg.t1s := by
    intro t ht
    obtain ⟨j, hj, rfl⟩ := List.mem_map.1 ht
    have hle : (j + 1) * d ≤ n * d := Nat.mul_le_mul_right d (List.mem_range.1 hj)
    simp only [Nat.add_sub_cancel] at hk1
    omega
  have helapsed : (s.cfg.t1s : Int) ≤ s.elapsed (s.lastAdv + (n + 1) * d) := by
    unfold State.elapsed
    omega
  rw [List.range_succ, List.map_append, List.foldl_append, foldl_advance_early hearly]
  exact State.advance_of_elapsed helapsed

/-! ### The statements -/

/-- Settles O6: the spec's table, by evaluation. -/
theorem crcIntermediateValuesOfTheRequest : Obligations.CrcIntermediateValuesOfTheRequest := by
  unfold Obligations.CrcIntermediateValuesOfTheRequest
  decide

/-- Settles O7: `crc_append_crcBytes`. -/
theorem crcOfFrameWithItsOwnCrcIsZero : Obligations.CrcOfFrameWithItsOwnCrcIsZero :=
  crc_append_crcBytes

/-- Settles O10: the two cases of ADVANCE, `foldl_advance_early` and `foldl_advance_every`. -/
theorem advanceRateIsAtMostOnePerSecond : Obligations.AdvanceRateIsAtMostOnePerSecond := by
  refine ⟨fun s now _ => ?_, fun s t1 ts h hts => ?_, fun s d k _ _ => foldl_advance_every⟩
  · rcases advance_cases s now with ⟨-, e⟩ | ⟨-, e⟩
    · exact .inr (by rw [e]; exact ⟨measSucc_toNat s.meas, rfl⟩)
    · exact .inl e
  · refine foldl_advance_early ?_
    rw [State.advance_of_elapsed h]
    exact hts

/-- Settles O19: the bytes of `build_toList`; the value's and the checksum's by `hiByte_mul_add_loByte`. -/
theorem responseFrameShape : Obligations.ResponseFrameShape := fun v _ => by
  refine ⟨rfl, rfl, hiByte_mul_add_loByte v, ?_⟩
  have h := hiByte_mul_add_loByte (crc [0x01, 0x04, 0x02, hiByte v, loByte v])
  rw [Nat.add_comm, Nat.mul_comm]
  exact h

/-- Settles O20: a value is its two bytes. -/
theorem buildIsInjective : Obligations.BuildIsInjective := fun v w hne => by
  by_contra h
  obtain ⟨hhi, hlo⟩ := not_or.1 h
  have hhi' : hiByte v = hiByte w := not_not.1 hhi
  have hlo' : loByte v = loByte w := not_not.1 hlo
  exact hne (by rw [← hiByte_append_loByte v, hhi', hlo', hiByte_append_loByte])

end Sys2Proof.Machine

/-! PROOFS. Runs (40_checksum.md section 2, 41_device_state.md section 2, 44_loop.md section 3): streaming checksums,
wraparound, and how a run of the loop goes on or ends. -/

namespace Sys2Proof.Machine

/-! ### Runs in parts -/

theorem runSteps_add (m n : Nat) (s : State) : runSteps (m + n) s = andThen (runSteps m s) (runSteps n) := by
  induction m generalizing s with
  | zero => rw [Nat.zero_add]; rfl
  | succ m ih =>
    rw [Nat.succ_add_eq_add_succ, Nat.add_succ, runSteps, runSteps]
    cases step s with
    | next t => exact ih t
    | fault r => rfl
    | refused r => rfl

theorem runOn_concat (ts : List Ports) (p : Ports) (s : State) :
    runOn (ts ++ [p]) s = andThen (runOn ts s) fun t => step (t.present p) := by
  induction ts generalizing s with
  | nil =>
    simp only [List.nil_append, runOn, andThen_next]
    cases step (s.present p) <;> rfl
  | cons t ts ih =>
    simp only [List.cons_append, runOn]
    cases step (s.present t) with
    | next u => exact ih u
    | fault r => rfl
    | refused r => rfl

/-- A run from P_TOP performs the command presented and goes on. -/
theorem runSteps_command {s u : State} {p : Ports} {rest : List Ports} {i : Instr} (k : Nat) (ha : Accepting s)
    (ht : s.phase = .top) (hh : s.host = p :: rest) (hd : decode (.command p.cmd) = .ok i)
    (he : exec i (s.latch p rest) = .next u) : runSteps (k + 1) s = runSteps k u := by
  have hstep := step_command (illFormed_eq_false fun _ => ha.measLegal) (fun _ => .inl ht) hh hd
  rw [runSteps, hstep, he, andThen_next]

theorem Accepting.setCrcAcc {s : State} (h : Accepting s) (a : Half) : Accepting (s.setCrcAcc a) :=
  ⟨h.resetSeen, h.measLegal, h.running, h.notHalted⟩

/-! ### Streaming checksums (R77) -/

/-- CRC_BYTEs fold their bytes into CRC_ACC. -/
theorem runSteps_crcBytes {bs : List Byte} {s : State} {p : Ports} {rest : List Ports} (ha : Accepting s)
    (ht : s.phase = .top) (hh : s.host = (bs.map fun b => p.withCmd (.crcByte b)) ++ rest) :
    ∃ q, runSteps bs.length s = .next ((s.latch q rest).setCrcAcc (bs.foldl crcByte s.crcAcc)) := by
  induction bs generalizing s with
  | nil =>
    obtain rfl : s.host = rest := by simpa using hh
    exact ⟨s.ports, rfl⟩
  | cons b bs ih =>
    have hd := decode_withCmd p (.crcByte b) (decode_encode _) rfl
    have ha' := ha.latch (p.withCmd (.crcByte b)) ((bs.map fun b => p.withCmd (.crcByte b)) ++ rest)
    obtain ⟨q, hq⟩ := ih (ha'.setCrcAcc (crcByte s.crcAcc b)) ht rfl
    exact ⟨q, (runSteps_command _ ha ht hh hd (exec_crcByte ha' b)).trans hq⟩

/-- CRC_INIT, CRC_BYTEs and CRC_READ put out the checksum of the bytes. -/
theorem runSteps_streaming {bs : List Byte} {s : State} {p : Ports} {rest : List Ports} (ha : Accepting s)
    (ht : s.phase = .top)
    (hh : s.host =
      p.withCmd .crcInit :: (bs.map fun b => p.withCmd (.crcByte b)) ++ p.withCmd .crcRead :: rest) :
    ∃ q, runSteps (bs.length + 2) s =
      .next (((s.latch q rest).setCrcAcc (crc bs)).putResult (.value (crc bs))) := by
  have hi := decode_withCmd p .crcInit (decode_encode _) rfl
  have hr := decode_withCmd p .crcRead (decode_encode _) rfl
  have hinit := (ha.latch (p.withCmd .crcInit)
    ((bs.map fun b => p.withCmd (.crcByte b)) ++ p.withCmd .crcRead :: rest))
  obtain ⟨q, hbytes⟩ := runSteps_crcBytes (hinit.setCrcAcc 0xFFFF) ht rfl
  have hread : Accepting ((s.latch q (p.withCmd .crcRead :: rest)).setCrcAcc (crc bs)) := (ha.latch _ _).setCrcAcc _
  refine ⟨p.withCmd .crcRead, ?_⟩
  calc runSteps (bs.length + 1 + 1) s
    _ = runSteps (bs.length + 1) _ := runSteps_command _ ha ht hh hi (exec_crcInit (ha.latch _ _))
    _ = andThen (runSteps bs.length _) (runSteps 1) := runSteps_add _ _ _
    _ = runSteps 1 ((s.latch q (p.withCmd .crcRead :: rest)).setCrcAcc (crc bs)) := congrArg (andThen · _) hbytes
    _ = _ := runSteps_command 0 hread ht rfl hr (exec_crcRead (hread.latch _ _))

/-! ### Wraparound (R83) -/

/-- An ADVANCE transaction at time t. -/
def advanceAt (p : Ports) (t : Nat) : Ports := { p.withCmd .advance with now := t }

theorem decode_advanceAt (p : Ports) (t : Nat) : decode (.command (advanceAt p t).cmd) = .ok .advance :=
  decode_withCmd p .advance (decode_encode _) rfl

theorem exec_advance_of_elapsed {s : State} (h : Accepting s) (hf : timeFits s.cfg s.ports.now = true)
    (he : (s.cfg.t1s : Int) ≤ s.elapsed s.ports.now) :
    exec .advance s = .next (s.setMeas (measSucc s.meas) s.ports.now) := by
  rw [exec_advance h hf, State.advance_of_elapsed he]

/-- ADVANCEs at times T1S apart add their number, modulo 2001. -/
theorem runSteps_advances {ts : List Nat} {s : State} {p : Ports} {rest : List Ports} (ha : Accepting s)
    (ht : s.phase = .top) (hsp : spaced s.cfg.t1s s.lastAdv ts = true) (hfits : ∀ t ∈ ts, timeFits s.cfg t = true)
    (hh : s.host = ts.map (advanceAt p) ++ rest) :
    ∃ u, runSteps ts.length s = .next u ∧ u.host = rest ∧ u.meas.toNat = (s.meas.toNat + ts.length) % 2001 := by
  induction ts generalizing s with
  | nil =>
    have hm := ha.measLegal
    exact ⟨s, rfl, by simpa using hh, by rw [List.length_nil]; omega⟩
  | cons t ts ih =>
    obtain ⟨hlast, hspaced⟩ : s.lastAdv + s.cfg.t1s ≤ t ∧ spaced s.cfg.t1s t ts = true := by simpa [spaced] using hsp
    have helapsed : (s.cfg.t1s : Int) ≤ s.elapsed t := by
      unfold State.elapsed
      omega
    have ha' := ha.latch (advanceAt p t) (ts.map (advanceAt p) ++ rest)
    have he := exec_advance_of_elapsed ha' (hfits t List.mem_cons_self) helapsed
    obtain ⟨u, hu, hhost, hmeas⟩ := ih
      (s := (s.latch (advanceAt p t) (ts.map (advanceAt p) ++ rest)).setMeas (measSucc s.meas) t)
      ⟨ha.resetSeen, measSucc_legal _, ha.running, ha.notHalted⟩ ht hspaced
      (fun t' h => hfits t' (List.mem_cons_of_mem t h)) rfl
    refine ⟨u, (runSteps_command _ ha ht hh (decode_advanceAt p t) he).trans hu, hhost, ?_⟩
    rw [hmeas, State.setMeas_meas, measSucc_toNat, List.length_cons]
    omega

/-! ### The loop (R119) -/

/-- How an ITERATE under the port values p ends a run. -/
def EndsRun (p : Ports) (t : State) : Prop :=
  (CleanEnd t ∧ p.stop = true) ∨ (FatalEnd t ∧ p.stop = false ∧ (p.rx = .fail ∨ p.tx = some .fail))

/-- The machine stands between two iterations of a run that began in s and has made n iterations. -/
structure Looping (s : State) (n : Nat) (t : State) : Prop where
  accepting : Accepting t
  atTop : t.phase = .top
  idle : t.host = []
  cfg : t.cfg = s.cfg
  reads : countReads t.trace = countReads s.trace + n

/-- An iteration that ends at P_TOP has made one ChanRead, and the machine accepts the next. -/
theorem IterateOutcome.goes_on_or_ends {s t : State} (h : IterateOutcome s (.next t)) (ha : Accepting s) :
    (Accepting t ∧ t.phase = .top ∧ countReads t.trace = countReads s.trace + 1) ∨ EndsRun s.ports t := by
  have hm := h.measLegal ha
  obtain ⟨-, -, hreset, -, -⟩ := h.frame
  cases h with
  | stopped hs => exact .inr (.inl ⟨⟨rfl, rfl⟩, hs⟩)
  | readFailed hs _ hr => exact .inr (.inr ⟨⟨rfl, .inl rfl⟩, hs, .inl hr⟩)
  | dropped b =>
    rw [State.dropped_eq] at hm hreset ⊢
    exact .inl ⟨⟨hreset.trans ha.resetSeen, hm, ha.running, by simp⟩, rfl, by simp [countReads]⟩
  | answered b _ _ _ hb =>
    rw [State.writing_written_eq s hb] at hm hreset ⊢
    exact .inl ⟨⟨hreset.trans ha.resetSeen, hm, ha.running, by simp⟩, rfl, by simp [countReads]⟩
  | writeFailed b hs _ _ _ hw => exact .inr (.inr ⟨⟨rfl, .inr rfl⟩, hs, .inr hw⟩)

/-- Under inputs that the spec gives a meaning to, an ITERATE has a next state. -/
theorem exists_next_of_loopInput {s : State} (ha : Accepting s) (ht : s.phase = .top) (hin : LoopInput s.cfg s.ports) :
    ∃ t, execIterate s = .next t := by
  have h := iterateOutcome_execIterate ha ht
  generalize execIterate s = o at h
  cases h with
  | timeWrap hs hf => simp [hin.nowFits] at hf
  | rxTooLong b hs hf hr hl => exact absurd (hin.readBounded b hr) (Nat.not_le.2 hl)
  | stuck b hs hf hr hb hw => exact absurd hw hin.writeReturns
  | stopped | readFailed | dropped | answered | writeFailed => exact ⟨_, rfl⟩

theorem Looping.step {s t : State} {n : Nat} {p : Ports} (h : Looping s n t) (hin : LoopInput s.cfg p) :
    ∃ u, Machine.step (t.present (p.withCmd .iterate)) = .next u ∧ (Looping s (n + 1) u ∨ EndsRun p u) := by
  have ha := h.accepting.latch (p.withCmd .iterate) []
  have hstep : Machine.step (t.present (p.withCmd .iterate)) = execIterate (t.latch (p.withCmd .iterate) []) :=
    step_present (illFormed_eq_false fun _ => h.accepting.measLegal) (fun _ => .inl h.atTop) h.idle
      (decode_withCmd p .iterate (decode_encode _) rfl)
  have hin' : LoopInput (t.latch (p.withCmd .iterate) []).cfg (p.withCmd .iterate) := by
    rw [State.latch_cfg, h.cfg]
    exact ⟨hin.nowFits, hin.readBounded, hin.writeReturns⟩
  obtain ⟨u, hu⟩ := exists_next_of_loopInput ha h.atTop hin'
  obtain ⟨-, -, ho⟩ := iterateOutcome_of_next hu
  refine ⟨u, hstep.trans hu, ?_⟩
  rcases ho.goes_on_or_ends ha with ⟨hacc, htop, hreads⟩ | hend
  · obtain ⟨-, hcfg, -, hhost, -⟩ := ho.frame
    exact .inl ⟨hacc, htop, hhost, hcfg.trans h.cfg, by rw [hreads, State.latch_trace, h.reads]; omega⟩
  · exact .inr hend

/-- The state after the first n transactions of an endless sequence, where they leave the machine looping. -/
def LoopsTo (s : State) (ins : Nat → Ports) (n : Nat) (t : State) : Prop :=
  runOn ((List.range n).map fun m => (ins m).withCmd .iterate) s = .next t ∧ Looping s n t

theorem runOn_range_succ {s t : State} {ins : Nat → Ports} {n : Nat} (h : LoopsTo s ins n t) :
    runOn ((List.range (n + 1)).map fun m => (ins m).withCmd .iterate) s =
      step (t.present ((ins n).withCmd .iterate)) := by
  obtain ⟨hrun, -⟩ := h
  rw [List.range_succ, List.map_append, List.map_singleton, runOn_concat, hrun, andThen_next]

/-- Either every iteration leads to the next, or one of them ends the run. -/
theorem loops_or_ends {s : State} {ins : Nat → Ports} (ha : Accepting s) (ht : s.phase = .top) (hh : s.host = [])
    (hin : ∀ n, LoopInput s.cfg (ins n)) :
    (∀ n, ∃ t, LoopsTo s ins n t) ∨
      ∃ n t, runOn ((List.range (n + 1)).map fun m => (ins m).withCmd .iterate) s = .next t ∧ EndsRun (ins n) t := by
  by_contra hno
  obtain ⟨hstops, hends⟩ := not_or.1 hno
  refine hstops fun n => ?_
  induction n with
  | zero => exact ⟨s, rfl, ha, ht, hh, rfl, rfl⟩
  | succ n ih =>
    obtain ⟨t, hrun, hloop⟩ := ih
    have hsucc := runOn_range_succ ⟨hrun, hloop⟩
    obtain ⟨u, hu, hnext | hend⟩ := hloop.step (hin n)
    · exact ⟨u, hsucc.trans hu, hnext⟩
    · exact absurd ⟨n, u, hsucc.trans hu, hend⟩ hends

/-- Where every iteration leads to the next, the states between them are an infinite run. -/
theorem exists_endlessRun {s : State} {ins : Nat → Ports} (h : ∀ n, ∃ t, LoopsTo s ins n t) :
    ∃ r : Nat → State, r 0 = s ∧ EndlessRun (fun n => (ins n).withCmd .iterate) r ∧
      ∀ n, Accepting (r n) ∧ (r n).phase = .top ∧ (r n).trace <+: (r (n + 1)).trace ∧
        countReads (r n).trace = countReads s.trace + n := by
  choose r hr using h
  have hstep (n : Nat) : step ((r n).present ((ins n).withCmd .iterate)) = .next (r (n + 1)) :=
    (runOn_range_succ (hr n)).symm.trans (hr (n + 1)).1
  refine ⟨r, ?_, hstep, fun n => ?_⟩
  · obtain ⟨h0, -⟩ := hr 0
    cases h0
    rfl
  · obtain ⟨-, hloop⟩ := hr n
    exact ⟨hloop.accepting, hloop.atTop, (extends_step (hstep n)).trace, hloop.reads⟩

/-! ### The statements -/

/-- Settles O8: `runSteps_streaming`, and CRC16 by `exec_crc16`. -/
theorem streamingCrcAgreesWithOneShot : Obligations.StreamingCrcAgreesWithOneShot := by
  refine fun bs s p rest ha ht hh => ⟨?_, fun u hu hbuf => ?_⟩
  · obtain ⟨q, hq⟩ := runSteps_streaming ha ht hh
    exact ⟨_, hq, rfl, rfl, rfl, rfl, rfl, rfl, rfl⟩
  · rw [exec_crc16 hu, hbuf]
    rfl

/-- Settles O11: `runSteps_advances`, and arithmetic modulo 2001. -/
theorem measurementWrapsAfter2001Advances : Obligations.MeasurementWrapsAfter2001Advances := by
  intro s p ts rest ha ht hsp hfits hh
  obtain ⟨u, hu, hhost, hmeas⟩ := runSteps_advances ha ht hsp hfits hh
  have hm := ha.measLegal
  refine ⟨u, hu, hhost, hmeas, fun hlen => BitVec.eq_of_toNat_eq ?_, fun hlen => ?_⟩
  · rw [hmeas, hlen]
    omega
  · rw [hmeas, hlen]
    omega

/-- Settles O60: `loops_or_ends`; no iteration ends the run where none is stopped and no call fails. -/
theorem runIsInfiniteOrEndsByStopOrFatal : Obligations.RunIsInfiniteOrEndsByStopOrFatal := by
  intro s ins ha ht hh hin iterate infinite
  have hor : infinite ∨ ∃ n t, runOn ((List.range (n + 1)).map iterate) s = .next t ∧ EndsRun (ins n) t :=
    (loops_or_ends ha ht hh hin).imp_left exists_endlessRun
  refine ⟨hor, fun hgood => hor.resolve_right ?_⟩
  rintro ⟨n, t, -, ⟨-, hstop⟩ | ⟨-, -, hfail⟩⟩
  · simp [(hgood n).1] at hstop
  · simp [(hgood n).2] at hfail

end Sys2Proof.Machine
